-- ==== Sys2Proof/Word.lean ====
section
/-! DEFINITION. The words of the Rozhal 460: bytes, RAM addresses, head images, and the plain arithmetic the manual's
Conventions name (00: saturating, clamped, rounded down). -/

namespace Sys2Proof

/-- One RAM byte, bit 7 the most significant (section 2.8). -/
abbrev Byte := BitVec 8

/-- A RAM address, 0x0000 to 0x7FFF (00, Conventions): the fifteen lines A0 to A14. -/
abbrev Addr := BitVec 15

/-- A row image: 72 bytes, the leftmost dot bit 7 of byte 0 (R138). -/
abbrev Image := List Byte

/-- A number as a byte. -/
abbrev byteOf (n : Nat) : Byte := BitVec.ofNat 8 n

/-- A number as a RAM address. -/
abbrev addrOf (n : Nat) : Addr := BitVec.ofNat 15 n

/-- "Clamped into lo..hi" (00, Conventions). -/
def clamp (lo hi n : Nat) : Nat := if n < lo then lo else if hi < n then hi else n

/-- "Clamped into lo..hi" over the integers. -/
def clampInt (lo hi n : Int) : Int := if n < lo then lo else if hi < n then hi else n

/-- "Increases by one, saturating at top" (00, Conventions). -/
def satSucc (top n : Nat) : Nat := if n < top then n + 1 else n

/-- A blank row image (R137). -/
def blankImage : Image := List.replicate 72 0

end Sys2Proof
end

