-- ==== Sys2Proof/Syntax.lean ====
section
/-! DEFINITION. The commands: one constructor of `Instr` per row of spec/opcode_table.json, with the operands of log 13
(the table gives none). -/

namespace Sys2Proof

/-- A bit decision of the demodulator: mark or space, whichever of the two heard tones is the stronger (R45). -/
inductive Decision where
  | mark
  | space
  deriving DecidableEq, Repr

/-- The setting bytes 0x40 to 0x4C and 0x60 to 0x65 (R29, section 2.8.1). -/
inductive SettingReg where
  | lineRate | lineFormat | lineOpts | xoffChar | xonChar | xoffFree | xonFree | holdLimit | listenLimit | lossHold
  | quietEnter | quietExit | weakMargin | darkness | history | warnTemp | stopTemp | repeatDelay | repeatInterval
  deriving DecidableEq, Repr

/-- The ring geometry bytes 0x50 to 0x58 (section 2.8.1). -/
inductive GeometryReg where
  | txBase | txCap | rxBase | rxCap | keyBase | keyCap | pqBase | pqCap | keymapBase
  deriving DecidableEq, Repr

/-- The host's producer indices (R31). -/
inductive ProducerIndex where
  | txProd
  | pqProd
  deriving DecidableEq, Repr

/-- The host's consumer indices (R32). -/
inductive ConsumerIndex where
  | rxCons
  | keyCons
  deriving DecidableEq, Repr

/-- The two flag words and their acknowledgement bytes (section 2.8.5). -/
inductive FlagWord where
  | lo
  | hi
  deriving DecidableEq, Repr

/-- The commands of the block: an event on a pin, a host access, a grant of the RAM port, an expiry, a pass, a tick. -/
inductive Instr where
  /-- POWER_ON_RESET (R43), with the strap levels sampled at its end (R1). -/
  | powerOnReset (straps : BitVec 2)
  /-- RESET_LINE_ASSERT (R13). -/
  | resetLineAssert
  /-- RESET_LINE_RELEASE (R1), with the strap levels sampled. -/
  | resetLineRelease (straps : BitVec 2)
  /-- HOST_READ (R3) of one address. -/
  | hostRead (address : Addr)
  /-- HOST_WRITE (R4) of one byte at one address. -/
  | hostWrite (address : Addr) (value : Byte)
  /-- ARG_WRITE (R28): a host write of ARG0 to ARG5. -/
  | argWrite (index : Fin 6) (value : Byte)
  /-- SETTING_WRITE (R29): a host write of a setting byte. -/
  | settingWrite (reg : SettingReg) (value : Byte)
  /-- GEOMETRY_WRITE (R22): a host write of a geometry byte. -/
  | geometryWrite (reg : GeometryReg) (value : Byte)
  /-- PRODUCER_INDEX_WRITE (R31): a host write of TX_PROD or PQ_PROD. -/
  | producerIndexWrite (reg : ProducerIndex) (value : Byte)
  /-- CONSUMER_INDEX_WRITE (R32): a host write of RX_CONS or KEY_CONS. -/
  | consumerIndexWrite (reg : ConsumerIndex) (value : Byte)
  /-- ACKNOWLEDGE (R34): a host write of ACK_LO or ACK_HI. -/
  | acknowledge (word : FlagWord) (mask : Byte)
  /-- UNKNOWN (R25): a host write to CMD of a nonzero code that is not in the command table. -/
  | unknown (code : Byte)
  /-- CONNECT 0x01 (R48, R49). -/
  | connect
  /-- DISCONNECT 0x02 (R59). -/
  | disconnect
  /-- SEND_BREAK 0x03 (R87). -/
  | sendBreak
  /-- PRINT_HOLD 0x10 (R148). -/
  | printHold
  /-- PRINT_RESUME 0x11 (R148, R150). -/
  | printResume
  /-- PRINT_CANCEL 0x12 (R151). -/
  | printCancel
  /-- RINGS_RESET 0x20 (R38, R39). -/
  | ringsReset
  /-- GUARD_SET 0x30 (R15). -/
  | guardSet
  /-- GUARD_OPEN 0x31 (R16). -/
  | guardOpen
  /-- GUARD_CLOSE 0x32 (R17). -/
  | guardClose
  /-- GUARD_TIGHT 0x33 (R18). -/
  | guardTight
  /-- CONFIRM 0x3F (R27). -/
  | confirm
  /-- CLEAR_ALL 0x40 (R35). -/
  | clearAll
  /-- STANDBY 0x50 (R40). -/
  | standby
  /-- WAKE 0x51 (R41). -/
  | wake
  /-- SOFT_RESET 0x5F (R42). -/
  | softReset
  /-- STATUS_WRITE_BACK_GRANT (R37). -/
  | statusWriteBackGrant
  /-- PART_INDEX_CLEAR_GRANT (R24). -/
  | partIndexClearGrant
  /-- RESULT_WRITE_BACK_GRANT (R24). -/
  | resultWriteBackGrant
  /-- CMD_CLEAR_GRANT (R24). -/
  | cmdClearGrant
  /-- CARRIER_PRESENT (R46). -/
  | carrierPresent
  /-- CARRIER_ABSENT (R46). -/
  | carrierAbsent
  /-- QUALIFY_EXPIRY (R51). -/
  | qualifyExpiry
  /-- LISTEN_EXPIRY (R55). -/
  | listenExpiry
  /-- INTEGRATION_COMPLETE (R53): the tenth mark decision, with its margin. -/
  | integrationComplete (margin : Fin 16)
  /-- LOSS_HOLD_EXPIRY (R58). -/
  | lossHoldExpiry
  /-- START_EDGE (R70). -/
  | startEdge
  /-- IDLE_MARK_DECISION (R77): a mark decision outside a frame, with its margin. -/
  | idleMarkDecision (margin : Fin 16)
  /-- FRAME_COMPLETE (R74): the stronger tone at the last stop-bit sample, with its margin, 0 for a tie (R45). -/
  | frameComplete (decision : Decision) (margin : Fin 16)
  /-- IDLE_RUN_COMPLETE (R63): the tenth idle mark decision, with its margin. -/
  | idleRunComplete (margin : Fin 16)
  /-- BREAK_IN (R75): the space decision 2N of a candidate. -/
  | breakIn
  /-- CANDIDATE_CHARACTER (R75): the mark decision that ends a candidate, with its margin. -/
  | candidateCharacter (margin : Fin 16)
  /-- BREAK_END (R76): the first mark decision in BREAK, with its margin. -/
  | breakEnd (margin : Fin 16)
  /-- HOLD_TIMER_EXPIRY (R80). -/
  | holdTimerExpiry
  /-- CHARACTER_OPERATION_COMPLETE (R82). -/
  | characterOperationComplete
  /-- BREAK_SPACE_END (R83). -/
  | breakSpaceEnd
  /-- BREAK_TAIL_COMPLETE (R83). -/
  | breakTailComplete
  /-- TX_RING_READ_GRANT (R89). -/
  | txRingReadGrant
  /-- TX_CONS_WRITE_GRANT (R89). -/
  | txConsWriteGrant
  /-- STREAM_BYTE_GRANT (R101). -/
  | streamByteGrant
  /-- RX_PROD_WRITE_GRANT (R101). -/
  | rxProdWriteGrant
  /-- SCAN_PASS (R113): bit c is set when position c reads closed. -/
  | scanPass (closed : BitVec 80)
  /-- REPEAT_TIMER_EXPIRY (R122). -/
  | repeatTimerExpiry
  /-- WAKE_PASS (R130): bit c is set when position c reads closed. -/
  | wakePass (closed : BitVec 80)
  /-- KEYMAP_READ_GRANT (R124). -/
  | keymapReadGrant
  /-- KEY_EVENT_BYTE_GRANT (R125). -/
  | keyEventByteGrant
  /-- KEY_PROD_WRITE_GRANT (R125). -/
  | keyProdWriteGrant
  /-- DESCRIPTOR_READ_GRANT (R136). -/
  | descriptorReadGrant
  /-- IMAGE_READ_GRANT (R137). -/
  | imageReadGrant
  /-- DESCRIPTOR_RESULT_WRITE_GRANT (R135). -/
  | descriptorResultWriteGrant
  /-- PQ_CONS_WRITE_GRANT (R135). -/
  | pqConsWriteGrant
  /-- HELD_DOTS_END (R163) of one segment. -/
  | heldDotsEnd (segment : Fin 8)
  /-- SEGMENT_STROBE_END (R163) of one segment. -/
  | segmentStrobeEnd (segment : Fin 8)
  /-- PHASE_END (R164). -/
  | phaseEnd
  /-- GATE_WAIT_EXPIRY (R184). -/
  | gateWaitExpiry
  /-- STEP_COMPLETE (R181). -/
  | stepComplete
  /-- COOLING_TICK (R173). -/
  | coolingTick
  /-- PACING_TIMER_EXPIRY (R176). -/
  | pacingTimerExpiry
  /-- READING_TIMER_EXPIRY (R168). -/
  | readingTimerExpiry
  /-- BIT_DECISION (R45): the stronger tone of a bit-time, with its margin, 0 for a tie. -/
  | bitDecision (decision : Decision) (margin : Fin 16)
  deriving DecidableEq, Repr

end Sys2Proof
end

