-- ==== Sys2Proof/Decode.lean ====
section
/-! DEFINITION. The words of the commands. No row of spec/opcode_table.json gives bits (every row has "fields": [] and no
"fixed"), so no word spells a command (log 25). -/

namespace Sys2Proof

/-- The command that the word `w` of `nbits` bits spells by the table's bits: none, for every word (log 25). -/
def decodeTableWord (_nbits _w : Nat) : Option Instr := none

end Sys2Proof
end

