-- ==== Sys2Proof/Config.lean ====
section
/-! DEFINITION. What the manual leaves to the world outside the chip: free values, constants without a body, so that
nothing can be proved of the value they take. -/

namespace Sys2Proof.Config

/-- FREE VALUE (log 10): what the supply sense shows, in millivolts, at the n-th reading whose level was not fed in from
outside (R168, R169). -/
opaque supplySense : Nat → Nat

/-- FREE VALUE (log 10): what the thermistor shows, in thousandths of a degree, at the n-th reading whose level was not fed
in from outside (R168, R169). -/
opaque thermistor : Nat → Int

/-- FREE VALUE (log 11): whether the first boundary comes before the own-flow evaluation at the n-th entry to ONLINE at
which their order matters and was not fed in from outside (R109: "either may be first"). -/
opaque boundaryFirst : Nat → Bool

end Sys2Proof.Config
end

