-- ==== Sys2Proof/Machine/State.lean ====
section
/-! DEFINITION. Everything the manual gives the Rozhal 460 to hold, as plain data, one record per block of 00's block
diagram, and the state right after power-on reset. -/

namespace Sys2Proof.Machine

/-- The reasons a step can stop with a fault: none. The manual gives the part no fault (log 1). -/
inductive Fault where
  deriving DecidableEq, Repr

/-- The reasons a command can be refused. -/
inductive Refusal where
  /-- Raised by a refused arm of `exec` for a command without a meaning yet; safe. No arm of this model raises it. -/
  | notModelled (mnemonic : String)
  deriving DecidableEq, Repr

/-- A timer: stopped, or running since a moment of the clock. -/
abbrev Timer := Option Nat

/-! ## MP (chapter 1) -/

/-- A guard window record (R14). -/
structure Window where
  enabled : Bool
  lower : Nat
  upper : Nat
  invert : Bool
  deriving DecidableEq, Repr

/-- One host access as it stands on the host side (section 1.2). -/
inductive HostAccess where
  | read (address : Addr)
  | write (address : Addr) (value : Byte)
  deriving DecidableEq, Repr

/-- The memory path: strap sample, guard table and companions (R21), arbiter counts (R13), and the host side of the port: the
accesses presented and not yet granted, in their order (R10, R13), whether the wait signal stood at the latest host grant (R10),
and the byte of the latest read (R3). -/
structure MemoryPath where
  straps : BitVec 2
  windows : List Window
  openPage : Option Nat
  tight : Bool
  guardHits : Nat
  guardFirst : BitVec 16
  hostRun : Nat
  passCount : Nat
  resetHeld : Bool
  hostWaiting : List HostAccess
  hostWaited : Bool
  hostData : Option Byte
  deriving DecidableEq, Repr

/-! ## CBM (chapter 2) -/

/-- The part indices (section 2.8.1). -/
inductive PartIndex where
  | txCons | pqCons | rxProd | keyProd
  deriving DecidableEq, Repr

/-- A write-back of the answer queue (R24). -/
inductive OwedWrite where
  | partIndex (index : PartIndex)
  | result (value : Byte)
  | clearCmd
  deriving DecidableEq, Repr

/-- The access CBM presents: the head of its answer queue, or the write-back of one status offset (R37). -/
inductive CbmAccess where
  | answer
  | status (offset : Nat)
  deriving DecidableEq, Repr

/-- The confirmable commands (R26). -/
inductive Confirmable where
  | guardSet | guardOpen | guardTight | softReset
  deriving DecidableEq, Repr

/-- The argument shadows ARG0 to ARG5 (R22). -/
structure Args where
  arg0 : Byte
  arg1 : Byte
  arg2 : Byte
  arg3 : Byte
  arg4 : Byte
  arg5 : Byte
  deriving DecidableEq, Repr

/-- The pending record (R26). -/
structure PendingCommand where
  code : Confirmable
  args : Args
  deriving DecidableEq, Repr

inductive Parity where
  | none | even | odd | mark | space
  deriving DecidableEq, Repr

/-- A line format as the LINE_FORMAT shadow holds it (R29). -/
structure LineFormat where
  parity : Parity
  eightData : Bool
  twoStop : Bool
  deriving DecidableEq, Repr

inductive StepGate where
  | off | quiet | always
  deriving DecidableEq, Repr

/-- The settings shadows (R29). -/
structure Settings where
  lineRate : Nat
  lineFormat : LineFormat
  rxFlow : Bool
  txFlow : Bool
  echoHalf : Bool
  localCopy : Bool
  direct : Bool
  stepGate : StepGate
  xoffChar : Byte
  xonChar : Byte
  xoffFree : Nat
  xonFree : Nat
  holdLimit : Nat
  listenLimit : Nat
  lossHold : Nat
  quietEnter : Nat
  quietExit : Nat
  weakMargin : Nat
  darkness : Nat
  history : Nat
  warnTemp : Nat
  stopTemp : Nat
  repeatDelay : Nat
  repeatInterval : Nat
  deriving DecidableEq, Repr

/-- The raw bytes CBM keeps to re-form the shadows that depend on another (R29). -/
structure RawSettings where
  xonFree : Byte
  quietExit : Byte
  stopTemp : Byte
  deriving DecidableEq, Repr

/-- The nine geometry bytes 0x50 to 0x58 (section 2.8.1), raw or applied (R38, R39). -/
structure Geometry where
  txBase : Byte
  txCap : Byte
  rxBase : Byte
  rxCap : Byte
  keyBase : Byte
  keyCap : Byte
  pqBase : Byte
  pqCap : Byte
  keymapBase : Byte
  deriving DecidableEq, Repr

/-- The control block monitor (R43). -/
structure ControlBlock where
  slotBusy : Bool
  answers : List OwedWrite
  access : Option CbmAccess
  args : Args
  pendingCmd : Option PendingCommand
  standby : Bool
  settings : Settings
  raw : RawSettings
  geometryRaw : Geometry
  geometry : Option Geometry
  txProd : Nat
  pqProd : Nat
  rxCons : Nat
  keyCons : Nat
  flagsLo : Byte
  flagsHi : Byte
  dirty : List Nat
  deriving DecidableEq, Repr

/-! ## LU (chapters 3 and 4) -/

inductive IntegrationKind where
  | first | again
  deriving DecidableEq, Repr

/-- The line states (section 3.2); INTEGRATE carries its kind. -/
inductive LineState where
  | off | listen | qualify
  | integrate (kind : IntegrationKind)
  | online | fade
  deriving DecidableEq, Repr

inductive Role where
  | originate | answer
  deriving DecidableEq, Repr

/-- The integration run and the idle run: a count 0..10 and a lowest margin 0..15 (R52, R63). -/
structure MarkRun where
  count : Nat
  lowest : Nat
  deriving DecidableEq, Repr

/-- The running loss-hold timer: its start and the shadow it was started with, × 100 ms (R56, R57). -/
structure LossHold where
  start : Nat
  limit : Nat
  deriving DecidableEq, Repr

/-- The frame record: the decisions after the start bit (true for mark), their lowest margin, the step-overlap indicator
(R70, R71). -/
structure FrameRecord where
  bits : List Bool
  lowest : Nat
  overlap : Bool
  deriving DecidableEq, Repr

/-- A break candidate: the flags judged at its completion and the decisions counted from its start bit (R74, R75). -/
structure Candidate where
  parity : Bool
  framing : Bool
  weak : Bool
  count : Nat
  deriving DecidableEq, Repr

/-- The receiver states (R69), FRAME and CANDIDATE with their records. -/
inductive Receiver where
  | idle | hunt | verify
  | frame (record : FrameRecord)
  | candidate (record : Candidate)
  | brk
  deriving DecidableEq, Repr

/-- The transmitter condition outside an operation (R44); SENDING is an operation under way. -/
inductive TxRest where
  | silent | mark
  deriving DecidableEq, Repr

/-- A transmit operation with its start (R82, R83); a character keeps its own rate and format. -/
inductive TxOp where
  | character (char : Byte) (rate : Nat) (format : LineFormat) (start : Nat)
  | breakSpace (start : Nat)
  | breakTail (start : Nat)
  deriving DecidableEq, Repr

inductive RingFetch where
  | none | readWait | indexWait
  deriving DecidableEq, Repr

/-- The line unit (R67, R93). -/
structure LineUnit where
  lineState : LineState
  role : Role
  rate : Nat
  format : LineFormat
  listenLimit : Nat
  listenTimer : Timer
  qualifyTimer : Timer
  lossHold : Option LossHold
  integRun : MarkRun
  idleRun : MarkRun
  onlineReached : Bool
  qs : Nat
  quiet : Bool
  txRest : TxRest
  demod : Bool
  carrier : Bool
  receiver : Receiver
  idleMark : Bool
  remoteHold : Bool
  holdTimer : Timer
  breakReq : Bool
  txOp : Option TxOp
  ringFetch : RingFetch
  txCons : Nat
  keyTx : List Byte
  deriving DecidableEq, Repr

/-! ## SU (chapter 5) -/

inductive MarkerCode where
  | carrierUp | carrierDown | breakIn | lost | holdExpired
  deriving DecidableEq, Repr

/-- A stream entry (R94). -/
inductive Entry where
  | line (char : Byte) (parity framing weak : Bool)
  | echo (char : Byte)
  | mark (code : MarkerCode) (arg : Nat)
  deriving DecidableEq, Repr

inductive Deposit where
  | none | byte0Wait | byte1Wait | indexWait
  deriving DecidableEq, Repr

inductive OwnFlow where
  | flowing | stopAsked | stopped | goAsked
  deriving DecidableEq, Repr

/-- The stream unit (R111). -/
structure StreamUnit where
  staging : List Entry
  lostCount : Nat
  lostTotal : Nat
  producer : Nat
  consumerCopy : Nat
  deposit : Deposit
  ownFlow : OwnFlow
  deriving DecidableEq, Repr

/-! ## KS (chapter 6) -/

inductive ScanMode where
  | matrix | wake
  deriving DecidableEq, Repr

inductive Debounce where
  | opened | closing1 | closing2 | down | opening1 | opening2
  deriving DecidableEq, Repr

inductive KeyClass where
  | admitted | suppressed
  deriving DecidableEq, Repr

inductive PressState where
  | pending | known | lost
  deriving DecidableEq, Repr

/-- A position record (R112). -/
structure KeyRecord where
  debounce : Debounce
  cls : KeyClass
  press : PressState
  value : Byte
  deriving DecidableEq, Repr

/-- A held-key table entry; no mapped value is UNKNOWN (R116). -/
structure HeldKey where
  code : Nat
  value : Option Byte
  deriving DecidableEq, Repr

inductive KeyKind where
  | press | repeated | release | wakePress
  deriving DecidableEq, Repr

/-- How processing finds the mapped value (R119). -/
inductive ValueSource where
  | lookup | fromPress
  | fixed (value : Byte)
  deriving DecidableEq, Repr

/-- A key event (R119); the mapped value is absent until the event is processed (R124). -/
structure KeyEvent where
  code : Nat
  kind : KeyKind
  shift : Nat
  source : ValueSource
  mapped : Option Byte
  lostBefore : Nat
  deriving DecidableEq, Repr

/-- The running repeat timer: the code it serves, its start, and its limit × 50 ms (R121). -/
structure RepeatTimer where
  code : Nat
  start : Nat
  limit : Nat
  deriving DecidableEq, Repr

inductive Processing where
  | none | lookupWait
  | byteWait (index : Nat)
  | indexWait
  deriving DecidableEq, Repr

/-- The key scanner (R132). -/
structure KeyScanner where
  scanMode : ScanMode
  lastPass : Nat
  records : List KeyRecord
  held : List HeldKey
  shiftDown : Bool
  ctrlDown : Bool
  rep : Option RepeatTimer
  repDelay : Nat
  repInterval : Nat
  fifo : List KeyEvent
  lostCount : Nat
  producer : Nat
  consumerCopy : Nat
  proc : Processing
  deriving DecidableEq, Repr

/-! ## PS (chapter 7) -/

inductive Engine where
  | idle | waitCache | coolPace | burn | stepWait | step | held | hotHalt | batteryHold | errorStop
  deriving DecidableEq, Repr

inductive PrintKind where
  | dots | feed | again
  deriving DecidableEq, Repr

/-- A valid descriptor's fields as taken (R133); darkness none is 0x0F, the DARKNESS shadow. -/
structure Descriptor where
  kind : PrintKind
  rows : Nat
  imageAddr : Nat
  length : Nat
  startOffset : Nat
  darkness : Option Nat
  deriving DecidableEq, Repr

/-- The line cache (R136, R137): FETCHING with the bytes read so far, LOADING with the image built so far and the count of
image bytes read. -/
inductive Cache where
  | empty
  | fetching (position : Nat) (bytes : List Byte)
  | loading (position : Nat) (desc : Descriptor) (image : Image) (count : Nat)
  | ready (position : Nat) (desc : Descriptor) (image : Image)
  | bad (position : Nat)
  deriving DecidableEq, Repr

/-- The line latch (R140). -/
structure Latch where
  position : Nat
  kind : PrintKind
  remaining : Nat
  darkness : Option Nat
  deriving DecidableEq, Repr

inductive PrintResult where
  | done | cancelled | badDesc
  deriving DecidableEq, Repr

structure Completion where
  position : Nat
  result : PrintResult
  deriving DecidableEq, Repr

/-- The access PS presents (R135): the result write or the PQ_CONS write of the completion list's head, or a fetch read,
discarded at its grant once a cancel has taken the cache (R153). -/
inductive PsAccess where
  | resultWrite
  | indexWrite
  | descriptorRead (address : Addr) (discard : Bool)
  | imageRead (address : Addr) (discard : Bool)
  deriving DecidableEq, Repr

inductive RowKind where
  | burning | latchFeed | localFeed
  deriving DecidableEq, Repr

/-- The history SP uses for a row (R147): none is BLANK. -/
abbrev HistoryImage := Option Image

/-- The row record (R143) with the settings the row took at its start (R30), whether one of its phases has started (R147),
and whether it entered BATTERY_HOLD at its row start (R170). The history decision is open until a plan point judges it. -/
structure RowRecord where
  darkness : Nat
  ratio : Nat
  warn : Nat
  stop : Nat
  burned : List Nat
  decision : Option HistoryImage
  phaseStarted : Bool
  batteryAtStart : Bool
  deriving DecidableEq, Repr

/-- The history record (R147). -/
structure HistoryRecord where
  image : Image
  time : Nat
  deriving DecidableEq, Repr

inductive HeldPoint where
  | betweenRows | inRow
  deriving DecidableEq, Repr

/-- A pending cancel: its limit, and whether the limit lay ahead of the fetch index when it was recorded (R151, R153,
log 18). -/
structure CancelRequest where
  limit : Nat
  ahead : Bool
  deriving DecidableEq, Repr

/-- The print sequencer (R156). -/
structure PrintSequencer where
  engine : Engine
  fetchIndex : Nat
  consumer : Nat
  cache : Cache
  latch : Option Latch
  latchImage : Image
  completion : List Completion
  access : Option PsAccess
  rowKind : Option RowKind
  row : Option RowRecord
  history : Option HistoryRecord
  holdRequest : Bool
  heldPoint : HeldPoint
  cancel : Option CancelRequest
  woundBack : Bool
  localFeeds : Nat
  deriving DecidableEq, Repr

/-! ## SP (chapter 8) -/

/-- A segment's counts (R159). -/
structure SegmentCount where
  segment : Nat
  on : Nat
  fresh : Nat
  held : Nat
  deriving DecidableEq, Repr

/-- A plan with its inputs (R157 to R160). -/
structure Plan where
  supply : Nat
  headTemp : Int
  darkness : Nat
  ratio : Nat
  decision : HistoryImage
  allowance : Nat
  counts : List SegmentCount
  phases : List (List Nat)
  current : Nat
  deriving DecidableEq, Repr

/-- The pulse times of one segment of the phase under way, in microseconds (R162). -/
structure Pulse where
  segment : Nat
  full : Nat
  held : Nat
  deriving DecidableEq, Repr

/-- The strobe planner (R167). -/
structure StrobePlanner where
  plan : Option Plan
  pulses : List Pulse
  phaseStart : Timer
  strobes : List Nat
  dotData : Image
  deriving DecidableEq, Repr

/-! ## HM, SM, PD (chapter 9) -/

inductive Halt where
  | none | ackWait | coolWait
  deriving DecidableEq, Repr

/-- The heat model (R185). -/
structure HeatModel where
  estimates : List Nat
  lastTick : Nat
  pacing : Timer
  halt : Halt
  deriving DecidableEq, Repr

/-- The supply monitor (R185). -/
structure SupplyMonitor where
  supply : Option Nat
  headTemp : Option Int
  readingTimer : Timer
  deriving DecidableEq, Repr

inductive StepState where
  | idle | waiting | stepping
  deriving DecidableEq, Repr

/-- The paper drive (R185). -/
structure PaperDrive where
  stepState : StepState
  stepStart : Timer
  gateWait : Timer
  position : Nat
  deriving DecidableEq, Repr

/-! ## The model's own -/

/-- What the sensors show at a reading: the supply in millivolts, the head in thousandths of a degree (log 10). -/
structure Sense where
  millivolts : Nat
  millidegrees : Int
  deriving DecidableEq, Repr

/-- The model's clock in microseconds (log 4) and the outside's inputs: sensor levels (log 10) and order choices (log 11),
fed in oldest first, with the number of each that took a free value instead. Beside the clock that alone moves it, the phase
of the tone out in millionths of a cycle (R44, log 34). -/
structure Surroundings where
  now : Nat
  tonePhase : Nat
  senseIn : List Sense
  senseUsed : Nat
  orderIn : List Bool
  orderUsed : Nat
  deriving DecidableEq, Repr

/-- RAM: address and byte, in the canonical form of `Memory.wf` (Machine/Ops.lean). -/
abbrev Memory := List Host.Cell

/-- The whole machine. -/
structure State where
  pending : List Instr
  env : Surroundings
  mem : Memory
  mp : MemoryPath
  cbm : ControlBlock
  lu : LineUnit
  su : StreamUnit
  ks : KeyScanner
  ps : PrintSequencer
  sp : StrobePlanner
  hm : HeatModel
  sm : SupplyMonitor
  pd : PaperDrive
  deriving DecidableEq, Repr

/-! ## One update per block -/

/-- `s` with another queue. -/
def State.withPending (s : State) (x : List Instr) : State := { s with pending := x }
/-- `s` with other surroundings. -/
def State.withEnv (s : State) (x : Surroundings) : State := { s with env := x }
/-- `s` with another RAM. -/
def State.withMem (s : State) (x : Memory) : State := { s with mem := x }
/-- `s` with another memory path. -/
def State.withMp (s : State) (x : MemoryPath) : State := { s with mp := x }
/-- `s` with another control block monitor. -/
def State.withCbm (s : State) (x : ControlBlock) : State := { s with cbm := x }
/-- `s` with another line unit. -/
def State.withLu (s : State) (x : LineUnit) : State := { s with lu := x }
/-- `s` with another stream unit. -/
def State.withSu (s : State) (x : StreamUnit) : State := { s with su := x }
/-- `s` with another key scanner. -/
def State.withKs (s : State) (x : KeyScanner) : State := { s with ks := x }
/-- `s` with another print sequencer. -/
def State.withPs (s : State) (x : PrintSequencer) : State := { s with ps := x }
/-- `s` with another strobe planner. -/
def State.withSp (s : State) (x : StrobePlanner) : State := { s with sp := x }
/-- `s` with another heat model. -/
def State.withHm (s : State) (x : HeatModel) : State := { s with hm := x }
/-- `s` with another supply monitor. -/
def State.withSm (s : State) (x : SupplyMonitor) : State := { s with sm := x }
/-- `s` with another paper drive. -/
def State.withPd (s : State) (x : PaperDrive) : State := { s with pd := x }

/-! ## After power-on reset -/

/-- The default line format: 7 data, EVEN, 1 stop (R29, R67). -/
def defaultFormat : LineFormat := ⟨.even, false, false⟩

/-- The default shadows (R29). -/
def defaultSettings : Settings where
  lineRate := 300
  lineFormat := defaultFormat
  rxFlow := true
  txFlow := true
  echoHalf := false
  localCopy := false
  direct := false
  stepGate := .quiet
  xoffChar := 0x13
  xonChar := 0x11
  xoffFree := 8
  xonFree := 32
  holdLimit := 20
  listenLimit := 30
  lossHold := 15
  quietEnter := 96
  quietExit := 144
  weakMargin := 4
  darkness := 4
  history := 5
  warnTemp := 55
  stopTemp := 68
  repeatDelay := 10
  repeatInterval := 2

/-- The raw bytes that decode to the defaults of the dependent shadows (R29). -/
def defaultRaw : RawSettings := ⟨32, 144, 68⟩

/-- Raw geometry 0x00 (R43). -/
def zeroGeometry : Geometry := ⟨0, 0, 0, 0, 0, 0, 0, 0, 0⟩

/-- Argument shadows 0x00 (R43). -/
def zeroArgs : Args := ⟨0, 0, 0, 0, 0, 0⟩

/-- An empty run: count 0, lowest margin 15 (R49). -/
def emptyRun : MarkRun := ⟨0, 15⟩

/-- The part-owned status offsets, in ascending order (section 2.6). -/
def statusOffsets : List Nat :=
  [0x1C, 0x1D, 0x1E, 0x1F, 0x20, 0x21, 0x22, 0x23, 0x24, 0x25, 0x26, 0x27, 0x28, 0x29, 0x2A, 0x2B]
    ++ [0x30, 0x31, 0x32, 0x33, 0x34, 0x35, 0x36, 0x37, 0x38, 0x39, 0x3A, 0x3B]

/-- A window after power-on: {no, 0, 0, no} (R21). -/
def clearWindow : Window := ⟨false, 0, 0, false⟩

/-- A position record after a reset: OPEN, class not meaningful (log 21), LOST, 0xFF (R132). -/
def clearRecord : KeyRecord := ⟨.opened, .admitted, .lost, 0xFF⟩

/-- MP after power-on reset or reset-line reset (R13, R21), with the straps sampled. -/
def MemoryPath.afterReset (straps : BitVec 2) : MemoryPath where
  straps := straps
  windows := [clearWindow, clearWindow, clearWindow, clearWindow]
  openPage := none
  tight := false
  guardHits := 0
  guardFirst := 0
  hostRun := 0
  passCount := 0
  resetHeld := false
  hostWaiting := []
  hostWaited := false
  hostData := none

/-- CBM after power-on reset or reset-line reset (R43): RESULT 0x00 and the CMD clear are owed, RESET_SEEN (bit 3 of
FLAGS_LO) is set, and all 28 offsets are dirty. -/
def ControlBlock.afterReset : ControlBlock where
  slotBusy := true
  answers := [.result 0, .clearCmd]
  access := some .answer
  args := zeroArgs
  pendingCmd := none
  standby := false
  settings := defaultSettings
  raw := defaultRaw
  geometryRaw := zeroGeometry
  geometry := none
  txProd := 0
  pqProd := 0
  rxCons := 0
  keyCons := 0
  flagsLo := 0x08
  flagsHi := 0
  dirty := statusOffsets

/-- LU after power-on reset or reset-line reset (R67, R93). -/
def LineUnit.afterReset : LineUnit where
  lineState := .off
  role := .originate
  rate := 300
  format := defaultFormat
  listenLimit := 30
  listenTimer := none
  qualifyTimer := none
  lossHold := none
  integRun := emptyRun
  idleRun := emptyRun
  onlineReached := false
  qs := 0
  quiet := false
  txRest := .silent
  demod := false
  carrier := false
  receiver := .idle
  idleMark := false
  remoteHold := false
  holdTimer := none
  breakReq := false
  txOp := none
  ringFetch := .none
  txCons := 0
  keyTx := []

/-- SU after power-on reset or reset-line reset (R111). -/
def StreamUnit.afterReset : StreamUnit where
  staging := []
  lostCount := 0
  lostTotal := 0
  producer := 0
  consumerCopy := 0
  deposit := .none
  ownFlow := .flowing

/-- KS after a reset that ended at `now` (R132); the sampled repeat settings are log 21. -/
def KeyScanner.afterReset (now : Nat) : KeyScanner where
  scanMode := .matrix
  lastPass := now
  records := List.replicate 80 clearRecord
  held := []
  shiftDown := false
  ctrlDown := false
  rep := none
  repDelay := 10
  repInterval := 2
  fifo := []
  lostCount := 0
  producer := 0
  consumerCopy := 0
  proc := .none

/-- PS after a reset (R156). -/
def PrintSequencer.afterReset : PrintSequencer where
  engine := .idle
  fetchIndex := 0
  consumer := 0
  cache := .empty
  latch := none
  latchImage := blankImage
  completion := []
  access := none
  rowKind := none
  row := none
  history := none
  holdRequest := false
  heldPoint := .betweenRows
  cancel := none
  woundBack := false
  localFeeds := 0

/-- SP after a reset (R167). -/
def StrobePlanner.afterReset : StrobePlanner where
  plan := none
  pulses := []
  phaseStart := none
  strobes := []
  dotData := blankImage

/-- HM after power-on reset, the cooling timer starting at `now` (R185). -/
def HeatModel.afterPowerOn (now : Nat) : HeatModel where
  estimates := List.replicate 8 0
  lastTick := now
  pacing := none
  halt := .none

/-- SM after power-on reset or reset-line reset (R185). -/
def SupplyMonitor.afterReset : SupplyMonitor where
  supply := none
  headTemp := none
  readingTimer := none

/-- PD after power-on reset or reset-line reset (R185). -/
def PaperDrive.afterReset : PaperDrive where
  stepState := .idle
  stepStart := none
  gateWait := none
  position := 0

/-- The machine right after power-on reset (R21, R43, R67, R93, R111, R132, R156, R167, R185), with the straps at 00, the
clock at 0 (log 2) and the tone's phase at 0 (log 34). -/
def State.reset : State where
  pending := []
  env := ⟨0, 0, [], 0, [], 0⟩
  mem := []
  mp := MemoryPath.afterReset 0
  cbm := ControlBlock.afterReset
  lu := LineUnit.afterReset
  su := StreamUnit.afterReset
  ks := KeyScanner.afterReset 0
  ps := PrintSequencer.afterReset
  sp := StrobePlanner.afterReset
  hm := HeatModel.afterPowerOn 0
  sm := SupplyMonitor.afterReset
  pd := PaperDrive.afterReset

end Sys2Proof.Machine
end

