-- ==== Sys2Proof/Machine/Operands.lean ====
section
/-! DEFINITION. The formats in RAM of section 2.8 and the codes of section 2.9: control block offsets, setting bytes and
their clamps (R29), stream entries, key events, print descriptors, command and result codes. -/

namespace Sys2Proof.Machine

open Sys2Proof

/-! ## The control block (2.8.1, R1, R2) -/

/-- The base fixed by the straps (R1). -/
def strapBase (straps : BitVec 2) : Nat :=
  match straps.toNat with
  | 0 => 0x7F80
  | 1 => 0x7F00
  | 2 => 0x0000
  | _ => 0x0080

/-- The offset of an argument byte. -/
def argOffset (index : Fin 6) : Nat := 0x02 + index.val

/-- The offset of a setting byte (2.8.1). -/
def SettingReg.offset : SettingReg → Nat
  | .lineRate => 0x40
  | .lineFormat => 0x41
  | .lineOpts => 0x42
  | .xoffChar => 0x43
  | .xonChar => 0x44
  | .xoffFree => 0x45
  | .xonFree => 0x46
  | .holdLimit => 0x47
  | .listenLimit => 0x48
  | .lossHold => 0x49
  | .quietEnter => 0x4A
  | .quietExit => 0x4B
  | .weakMargin => 0x4C
  | .darkness => 0x60
  | .history => 0x61
  | .warnTemp => 0x62
  | .stopTemp => 0x63
  | .repeatDelay => 0x64
  | .repeatInterval => 0x65

/-- The setting byte at an offset, if one is there (2.8.1). -/
def settingAt (offset : Nat) : Option SettingReg :=
  match offset with
  | 0x40 => some .lineRate
  | 0x41 => some .lineFormat
  | 0x42 => some .lineOpts
  | 0x43 => some .xoffChar
  | 0x44 => some .xonChar
  | 0x45 => some .xoffFree
  | 0x46 => some .xonFree
  | 0x47 => some .holdLimit
  | 0x48 => some .listenLimit
  | 0x49 => some .lossHold
  | 0x4A => some .quietEnter
  | 0x4B => some .quietExit
  | 0x4C => some .weakMargin
  | 0x60 => some .darkness
  | 0x61 => some .history
  | 0x62 => some .warnTemp
  | 0x63 => some .stopTemp
  | 0x64 => some .repeatDelay
  | 0x65 => some .repeatInterval
  | _ => none

/-- The offset of a geometry byte (2.8.1). -/
def GeometryReg.offset : GeometryReg → Nat
  | .txBase => 0x50
  | .txCap => 0x51
  | .rxBase => 0x52
  | .rxCap => 0x53
  | .keyBase => 0x54
  | .keyCap => 0x55
  | .pqBase => 0x56
  | .pqCap => 0x57
  | .keymapBase => 0x58

/-- The geometry byte at an offset, if one is there (2.8.1). -/
def geometryAt (offset : Nat) : Option GeometryReg :=
  match offset with
  | 0x50 => some .txBase
  | 0x51 => some .txCap
  | 0x52 => some .rxBase
  | 0x53 => some .rxCap
  | 0x54 => some .keyBase
  | 0x55 => some .keyCap
  | 0x56 => some .pqBase
  | 0x57 => some .pqCap
  | 0x58 => some .keymapBase
  | _ => none

/-- The offsets of the host's producer indices (2.8.1). -/
def ProducerIndex.offset : ProducerIndex → Nat
  | .txProd => 0x10
  | .pqProd => 0x11

/-- The offsets of the host's consumer indices (2.8.1). -/
def ConsumerIndex.offset : ConsumerIndex → Nat
  | .rxCons => 0x12
  | .keyCons => 0x13

/-- The offsets of ACK_LO and ACK_HI (2.8.1). -/
def FlagWord.ackOffset : FlagWord → Nat
  | .lo => 0x14
  | .hi => 0x15

/-- The offsets of the part indices (2.8.1). -/
def PartIndex.offset : PartIndex → Nat
  | .txCons => 0x18
  | .pqCons => 0x19
  | .rxProd => 0x1A
  | .keyProd => 0x1B

/-- The offsets of CMD and RESULT (2.8.1). -/
def cmdOffset : Nat := 0x00
def resultOffset : Nat := 0x01

/-- The part-owned offsets while the slot is BUSY or FREE (R2). -/
def partOwned (slotBusy : Bool) (offset : Nat) : Bool :=
  offset == 0x01 || (0x18 ≤ offset && offset ≤ 0x2B) || (0x30 ≤ offset && offset ≤ 0x3B)
    || (slotBusy && (offset == 0x00 || (0x02 ≤ offset && offset ≤ 0x07)))

/-- One argument shadow replaced (R22). -/
def Args.set (a : Args) (index : Fin 6) (v : Byte) : Args :=
  match index with
  | 0 => { a with arg0 := v }
  | 1 => { a with arg1 := v }
  | 2 => { a with arg2 := v }
  | 3 => { a with arg3 := v }
  | 4 => { a with arg4 := v }
  | 5 => { a with arg5 := v }

/-- One raw geometry byte replaced (R22). -/
def Geometry.set (g : Geometry) (reg : GeometryReg) (v : Byte) : Geometry :=
  match reg with
  | .txBase => { g with txBase := v }
  | .txCap => { g with txCap := v }
  | .rxBase => { g with rxBase := v }
  | .rxCap => { g with rxCap := v }
  | .keyBase => { g with keyBase := v }
  | .keyCap => { g with keyCap := v }
  | .pqBase => { g with pqBase := v }
  | .pqCap => { g with pqCap := v }
  | .keymapBase => { g with keymapBase := v }

/-! ## Settings (R29) -/

/-- LINE_RATE: an unknown code is taken as 300 (R29). -/
def lineRateOf (b : Byte) : Nat :=
  match b.toNat with
  | 1 => 110
  | 2 => 150
  | _ => 300

/-- LINE_FORMAT: 8 data with any parity becomes NONE; 7 data with NONE or an unknown code becomes EVEN (R29). -/
def lineFormatOf (b : Byte) : LineFormat :=
  let eight := b.getLsbD 3
  let parity : Parity :=
    if eight then .none
    else match b.toNat % 8 with
      | 2 => .odd
      | 3 => .mark
      | 4 => .space
      | _ => .even
  ⟨parity, eight, b.getLsbD 4⟩

/-- STEP_GATE, bits 6 to 5 of LINE_OPTS: the unused code is taken as ALWAYS (R29). -/
def stepGateOf (b : Byte) : StepGate :=
  match b.toNat / 32 % 4 with
  | 0 => .off
  | 1 => .quiet
  | _ => .always

/-- XON_FREE: (XOFF_FREE shadow + 2)..128 (R29). -/
def xonFreeOf (xoffFree : Nat) (raw : Byte) : Nat := clamp (xoffFree + 2) 128 raw.toNat

/-- QUIET_EXIT: (QUIET_ENTER shadow + 16)..240 (R29). -/
def quietExitOf (quietEnter : Nat) (raw : Byte) : Nat := clamp (quietEnter + 16) 240 raw.toNat

/-- STOP_TEMP: (WARN_TEMP shadow + 5)..85 (R29). -/
def stopTempOf (warnTemp : Nat) (raw : Byte) : Nat := clamp (warnTemp + 5) 85 raw.toNat

/-- The raw bytes kept after a write of a setting byte (R29). -/
def RawSettings.set (r : RawSettings) (reg : SettingReg) (b : Byte) : RawSettings :=
  match reg with
  | .xonFree => { r with xonFree := b }
  | .quietExit => { r with quietExit := b }
  | .stopTemp => { r with stopTemp := b }
  | _ => r

/-- The shadows after a write of a setting byte, dependent shadows formed again from their raw bytes `raw` (R29). -/
def Settings.set (t : Settings) (raw : RawSettings) (reg : SettingReg) (b : Byte) : Settings :=
  let n := b.toNat
  match reg with
  | .lineRate => { t with lineRate := lineRateOf b }
  | .lineFormat => { t with lineFormat := lineFormatOf b }
  | .lineOpts => { t with
      rxFlow := b.getLsbD 0
      txFlow := b.getLsbD 1
      echoHalf := b.getLsbD 2
      localCopy := b.getLsbD 3
      direct := b.getLsbD 4
      stepGate := stepGateOf b }
  | .xoffChar => { t with xoffChar := b }
  | .xonChar => { t with xonChar := b }
  | .xoffFree => { t with xoffFree := clamp 2 64 n, xonFree := xonFreeOf (clamp 2 64 n) raw.xonFree }
  | .xonFree => { t with xonFree := xonFreeOf t.xoffFree b }
  | .holdLimit => { t with holdLimit := clamp 0 60 n }
  | .listenLimit => { t with listenLimit := clamp 5 60 n }
  | .lossHold => { t with lossHold := clamp 2 60 n }
  | .quietEnter => { t with quietEnter := clamp 0 224 n, quietExit := quietExitOf (clamp 0 224 n) raw.quietExit }
  | .quietExit => { t with quietExit := quietExitOf t.quietEnter b }
  | .weakMargin => { t with weakMargin := clamp 0 15 n }
  | .darkness => { t with darkness := clamp 0 7 n }
  | .history => { t with history := clamp 4 8 n }
  | .warnTemp => { t with warnTemp := clamp 40 70 n, stopTemp := stopTempOf (clamp 40 70 n) raw.stopTemp }
  | .stopTemp => { t with stopTemp := stopTempOf t.warnTemp b }
  | .repeatDelay => { t with repeatDelay := clamp 5 20 n }
  | .repeatInterval => { t with repeatInterval := clamp 1 5 n }

/-! ## Commands and results (2.9) -/

/-- The commands of section 2.9 that are not confirmable, and the confirmable ones. -/
inductive Command where
  | connect | disconnect | sendBreak | printHold | printResume | printCancel | ringsReset | guardClose | confirm
  | clearAll | standby | wake
  | confirmable (code : Confirmable)
  deriving DecidableEq, Repr

/-- The command with a code (2.9). -/
def commandOf (code : Byte) : Option Command :=
  match code.toNat with
  | 0x01 => some .connect
  | 0x02 => some .disconnect
  | 0x03 => some .sendBreak
  | 0x10 => some .printHold
  | 0x11 => some .printResume
  | 0x12 => some .printCancel
  | 0x20 => some .ringsReset
  | 0x30 => some (.confirmable .guardSet)
  | 0x31 => some (.confirmable .guardOpen)
  | 0x32 => some .guardClose
  | 0x33 => some (.confirmable .guardTight)
  | 0x3F => some .confirm
  | 0x40 => some .clearAll
  | 0x50 => some .standby
  | 0x51 => some .wake
  | 0x5F => some (.confirmable .softReset)
  | _ => none

/-- The answers (2.9), less 0x00, which only a reset owes. -/
inductive Result where
  | ok | awaitConfirm | refusedState | ringsUnset | badArg | locked | overlap | unknown | inStandby | nothingToConfirm
  deriving DecidableEq, Repr

/-- The result codes (2.9). -/
def Result.code : Result → Byte
  | .ok => 0x01
  | .awaitConfirm => 0x02
  | .refusedState => 0x03
  | .ringsUnset => 0x04
  | .badArg => 0x05
  | .locked => 0x06
  | .overlap => 0x07
  | .unknown => 0x08
  | .inStandby => 0x09
  | .nothingToConfirm => 0x0A

/-! ## Stream entries (2.8.2) -/

/-- The marker codes (2.8.2). -/
def MarkerCode.code : MarkerCode → Nat
  | .carrierUp => 1
  | .carrierDown => 2
  | .breakIn => 3
  | .lost => 4
  | .holdExpired => 5

/-- A bit as a number. -/
def bitVal (b : Bool) (weight : Nat) : Nat := if b then weight else 0

/-- Byte 0 of a stream entry: the character, or the marker argument (2.8.2). -/
def Entry.byte0 : Entry → Byte
  | .line c _ _ _ => c
  | .echo c => c
  | .mark _ a => byteOf a

/-- Byte 1 of a stream entry: origin in bits 7 to 6; LINE flags PARITY, FRAMING, WEAK in bits 0 to 2, or the marker code
(2.8.2). -/
def Entry.byte1 : Entry → Byte
  | .line _ p f w => byteOf (bitVal p 1 + bitVal f 2 + bitVal w 4)
  | .echo _ => 0x40
  | .mark m _ => byteOf (0x80 + m.code)

/-! ## Key events (2.8.3) -/

/-- The kind codes (2.8.3). -/
def KeyKind.code : KeyKind → Nat
  | .press => 0
  | .repeated => 1
  | .release => 2
  | .wakePress => 3

/-- Byte `i` of a key event: code; kind in bits 1 to 0 with SHIFT and CTRL down in bits 2 and 3; mapped value; lost-before
(2.8.3, R125). -/
def KeyEvent.byte (e : KeyEvent) (i : Nat) : Byte :=
  match i with
  | 0 => byteOf e.code
  | 1 => byteOf (e.kind.code + 4 * e.shift)
  | 2 => e.mapped.getD 0
  | _ => byteOf e.lostBefore

/-! ## Print descriptors (2.8.4, R133, R134) -/

/-- The kind byte; any other byte is an unknown kind (R133). -/
def printKindOf (b : Byte) : Option PrintKind :=
  match b.toNat with
  | 1 => some .dots
  | 2 => some .feed
  | 3 => some .again
  | _ => none

/-- The darkness byte: 0..7 as given, 0x0F the DARKNESS shadow, any other 7 (R133). -/
def darknessOf (b : Byte) : Option Nat :=
  if b.toNat ≤ 7 then some b.toNat else if b.toNat = 0x0F then none else some 7

/-- A 16-bit value from its two bytes, low byte first (2.8). -/
def word16 (low high : Byte) : Nat := low.toNat + 256 * high.toNat

/-- The fields of a descriptor from its eight bytes, once its kind is known (R133); the result byte is not used. -/
def descriptorFields (kind : PrintKind) (bytes : List Byte) : Descriptor where
  kind := kind
  rows := if (bytes.getD 1 0).toNat = 0 then 1 else (bytes.getD 1 0).toNat
  imageAddr := word16 (bytes.getD 2 0) (bytes.getD 3 0)
  length := (bytes.getD 4 0).toNat
  startOffset := (bytes.getD 5 0).toNat
  darkness := darknessOf (bytes.getD 6 0)

/-- A DOTS descriptor's fields that make it BAD_DESC (R134). -/
def Descriptor.badDots (d : Descriptor) : Bool :=
  0x7FFF < d.imageAddr || (1 ≤ d.length && 0x7FFF < d.imageAddr + d.length - 1) || 71 < d.startOffset

/-- The judgement of R134 over the eight bytes: the fields of a valid descriptor, or nothing for BAD_DESC. -/
def judgeDescriptor (bytes : List Byte) : Option Descriptor :=
  match printKindOf (bytes.getD 0 0) with
  | none => none
  | some .dots =>
    if (descriptorFields .dots bytes).badDots then none else some (descriptorFields .dots bytes)
  | some k => some (descriptorFields k bytes)

/-- The result codes of a descriptor (2.8.4). -/
def PrintResult.code : PrintResult → Byte
  | .done => 0x01
  | .cancelled => 0x02
  | .badDesc => 0x03

/-! ## Status codes (2.8.1) -/

/-- LINE_STATE (2.8.1). -/
def LineState.code : LineState → Nat
  | .off => 0
  | .listen => 1
  | .qualify => 2
  | .integrate _ => 3
  | .online => 4
  | .fade => 5

/-- PRINT_STATE (2.8.1). -/
def Engine.code : Engine → Nat
  | .idle => 0
  | .waitCache => 1
  | .coolPace => 2
  | .burn => 3
  | .stepWait => 4
  | .step => 5
  | .held => 6
  | .hotHalt => 7
  | .batteryHold => 8
  | .errorStop => 9

/-! ## The line format (R68) -/

/-- The number of data bits. -/
def LineFormat.dataBits (f : LineFormat) : Nat := if f.eightData then 8 else 7

/-- Whether the format has a parity bit. -/
def LineFormat.hasParity (f : LineFormat) : Bool := f.parity != .none

/-- The number of stop bits. -/
def LineFormat.stopBits (f : LineFormat) : Nat := if f.twoStop then 2 else 1

/-- The frame length N: start, data, parity, stop (R68). -/
def LineFormat.length (f : LineFormat) : Nat :=
  1 + f.dataBits + (if f.hasParity then 1 else 0) + f.stopBits

/-- A frame-time in whole microseconds: N bit-times (R68, log 5). -/
def frameTime (f : LineFormat) (rate : Nat) : Nat := f.length * 1000000 / rate

end Sys2Proof.Machine
end

