-- ==== Sys2Proof/Machine/Flags.lean ====
section
/-! DEFINITION. The sixteen flags (R33), their words (section 2.8.5), and SUMMARY (R36). -/

namespace Sys2Proof.Machine

open Sys2Proof

/-- The sixteen flags (R33). -/
inductive Flag where
  | guardHit | ownedHit | indexError | resetSeen | streamLost | keyLost | keyTxLost | printDescError
  | connectTimeout | carrierDown | breakIn | holdExpired | quietSeen | hotWarn | hotStop | batteryLow
  deriving DecidableEq, Repr

/-- The word of a flag (2.8.5). -/
def Flag.word : Flag → FlagWord
  | .guardHit | .ownedHit | .indexError | .resetSeen | .streamLost | .keyLost | .keyTxLost | .printDescError => .lo
  | .connectTimeout | .carrierDown | .breakIn | .holdExpired | .quietSeen | .hotWarn | .hotStop | .batteryLow => .hi

/-- The bit position of a flag in its word (2.8.5). -/
def Flag.bit : Flag → Nat
  | .guardHit => 0
  | .ownedHit => 1
  | .indexError => 2
  | .resetSeen => 3
  | .streamLost => 4
  | .keyLost => 5
  | .keyTxLost => 6
  | .printDescError => 7
  | .connectTimeout => 0
  | .carrierDown => 1
  | .breakIn => 2
  | .holdExpired => 3
  | .quietSeen => 4
  | .hotWarn => 5
  | .hotStop => 6
  | .batteryLow => 7

/-- The mask of a flag in its word. -/
def Flag.mask (f : Flag) : Byte := 1 <<< f.bit

/-- The flag word a flag stands in. -/
def flagWord (c : ControlBlock) : FlagWord → Byte
  | .lo => c.flagsLo
  | .hi => c.flagsHi

/-- Whether a flag is set. -/
def hasFlag (f : Flag) (s : State) : Bool := (flagWord s.cbm f.word).getLsbD f.bit

/-- A block reports a flag's event: the flag is set, and one already set stays set (R33). -/
def setFlag (f : Flag) (s : State) : State :=
  match f.word with
  | .lo => s.withCbm { s.cbm with flagsLo := s.cbm.flagsLo ||| f.mask }
  | .hi => s.withCbm { s.cbm with flagsHi := s.cbm.flagsHi ||| f.mask }

/-- SUMMARY (R36, 2.8.5): the groups of flags in bits 0 to 5, the two live conditions in bits 6 and 7. -/
def summary (s : State) : Nat :=
  bitVal (hasFlag .guardHit s || hasFlag .ownedHit s || hasFlag .indexError s) 1
    + bitVal (hasFlag .streamLost s || hasFlag .keyLost s || hasFlag .keyTxLost s) 2
    + bitVal (hasFlag .connectTimeout s || hasFlag .carrierDown s || hasFlag .breakIn s || hasFlag .holdExpired s
        || hasFlag .quietSeen s) 4
    + bitVal (hasFlag .printDescError s || hasFlag .hotWarn s || hasFlag .hotStop s || hasFlag .batteryLow s) 8
    + bitVal (hasFlag .resetSeen s) 16
    + bitVal (s.cbm.flagsLo != 0 || s.cbm.flagsHi != 0) 32
    + bitVal (s.lu.lineState == .online) 64
    + bitVal (s.ps.engine != .idle) 128

/-- The bits of an acknowledged word that re-latch (R34): those acknowledged, set, and whose condition still stands. -/
def relatched (word mask standing : Byte) : Byte := word &&& mask &&& standing

/-- A flag word after an acknowledgement (R34): the acknowledged bits clear, less those re-latched. -/
def acknowledgedWord (word mask standing : Byte) : Byte := (word &&& ~~~mask) ||| relatched word mask standing

end Sys2Proof.Machine
end

