-- ==== Sys2Proof/Machine/Tone.lean ====
section
/-! DEFINITION. The tones (R44, R45, R82, R83): the bands of the roles, the bits of a character on the line, the level and the
tone the transmitter sends at a moment, and how far the phase of the tone runs. -/

namespace Sys2Proof.Machine

open Sys2Proof

/-! ## Bands (R44) -/

/-- The two frequency bands of the coupler, one for each direction (section 3.1, R44). -/
inductive Band where
  | low | high
  deriving DecidableEq, Repr

/-- The band a role sends in (R44). -/
def Role.sendBand : Role → Band
  | .originate => .low
  | .answer => .high

/-- The band a role listens in (R44). -/
def Role.listenBand : Role → Band
  | .originate => .high
  | .answer => .low

/-- The tone of a bit in a band, in hertz; true for mark (R44). -/
def Band.tone : Band → Bool → Nat
  | .low, true => 1120
  | .low, false => 1320
  | .high, true => 2110
  | .high, false => 2310

/-- The heard tone of a bit: its tone in the band of the role that listens (R44). -/
def heardTone (s : State) (mark : Bool) : Nat := s.lu.role.listenBand.tone mark

/-- The heard mark and space tones whose energies the demodulator compares while it runs (R45); while it is stopped the
microphone input is not looked at. -/
def tonesCompared (s : State) : Option (Nat × Nat) :=
  if s.lu.demod then some (heardTone s true, heardTone s false) else none

/-! ## The bits of a character (R82) -/

/-- The parity bit that a format requires over data bits (R72, R82); none for a format without parity. -/
def requiredParity (f : LineFormat) (data : List Bool) : Option Bool :=
  match f.parity with
  | .none => none
  | .even => some (data.countP id % 2 == 1)
  | .odd => some (data.countP id % 2 == 0)
  | .mark => some true
  | .space => some false

/-- The bits of a character on the line: start, data, parity, stop; true for mark (R82). -/
def frameBits (f : LineFormat) (c : Byte) : List Bool :=
  let data := (List.range f.dataBits).map (fun i => c.getLsbD i)
  [false] ++ data ++ (requiredParity f data).toList ++ List.replicate f.stopBits true

/-! ## The level and the tone out (R44, R82, R83) -/

/-- The level outside an operation: none in SILENT, mark in MARK and between characters (R44). -/
def TxRest.level : TxRest → Option Bool
  | .silent => none
  | .mark => some true

/-- The line level the transmitter sends at a moment of its present operation: none when silent, else mark (true) or space (R44,
R82, R83). A character's bits each take one bit-time from its start on, and mark follows the last (log 28). -/
def LineUnit.levelAt (l : LineUnit) (t : Nat) : Option Bool :=
  match l.txOp with
  | none => l.txRest.level
  | some (.character c rate f start) => some ((frameBits f c).getD ((t - start) * rate / 1000000) true)
  | some (.breakSpace _) => some false
  | some (.breakTail _) => some true

/-- The line level the transmitter sends now. -/
def sentLevel (s : State) : Option Bool := s.lu.levelAt s.env.now

/-- The tone the transmitter sends at a moment of its present operation, in hertz: the sent tone of the role (R44). -/
def LineUnit.toneAt (l : LineUnit) (t : Nat) : Option Nat := (l.levelAt t).map l.role.sendBand.tone

/-- The tone out in hertz (R44). A character left over from the connection before keeps its rate and format (R49); that it takes
the tones of the new role from the CONNECT on is the model's choice (log 30: R49 is silent on the role). -/
def toneOut (s : State) : Option Nat := s.lu.toneAt s.env.now

/-! ## The phase of the tone out (R44, log 34) -/

/-- Cycles are counted in millionths: a tone of h hertz runs through h of them in a microsecond. -/
def toneCycle : Nat := 1000000

/-- The end of bit k of a character: the first moment that lies in a later bit. -/
def bitEnd (rate start k : Nat) : Nat := start + ((k + 1) * 1000000 + (rate - 1)) / rate

/-- How far the phase runs from moment a to moment b over the bits from bit k on, mark after the last. -/
def bitsPassed (band : Band) (rate start : Nat) : List Bool → Nat → Nat → Nat → Nat
  | [], _, a, b => band.tone true * (b - a)
  | bit :: rest, k, a, b =>
    let e := min b (max a (bitEnd rate start k))
    band.tone bit * (e - a) + bitsPassed band rate start rest (k + 1) e b

/-- How far the phase of the tone out runs from moment a to moment b of the present operation, in millionths of a cycle (R44):
the sum over the microseconds between of the tone sent in each (Laws/Tone.lean), nothing while silent. At a rate of 0, which no
CONNECT gives, a character would not leave its start bit. -/
def LineUnit.phasePassed (l : LineUnit) (a b : Nat) : Nat :=
  let band := l.role.sendBand
  match l.txOp with
  | some (.character c rate f start) =>
    if rate = 0 then band.tone false * (b - a) else bitsPassed band rate start (frameBits f c) 0 a b
  | _ => (l.toneAt a).getD 0 * (b - a)

/-- The surroundings at a later moment: the phase of the tone out has run on from where it stood, whatever tone ran before
(R44, log 34). -/
def Surroundings.reaches (e : Surroundings) (l : LineUnit) (t : Nat) : Surroundings :=
  { e with now := t, tonePhase := (e.tonePhase + l.phasePassed e.now t) % toneCycle }

end Sys2Proof.Machine
end

