-- ==== Sys2Proof/Machine/Ops.lean ====
section
/-! DEFINITION. The shared operations: RAM, the clock and the outside's inputs, the control block's addresses, the guard
table's sets, the values behind the status bytes, the dirty set, and the arbiter of the RAM port. -/

namespace Sys2Proof.Machine

open Sys2Proof

/-! ## RAM (log 3) -/

/-- What a byte that nothing has written reads as (log 3: DESIGN CHOICE). -/
def unlistedByte : Byte := 0

/-- One byte of RAM. -/
def Memory.read : Memory → Nat → Byte
  | [], _ => unlistedByte
  | (k, v) :: rest, a => if k = a then v else if a < k then unlistedByte else Memory.read rest a

/-- A cell in front of a list, unless it holds what an unlisted address reads as. -/
def Memory.cell (a : Nat) (v : Byte) (rest : Memory) : Memory :=
  if v = unlistedByte then rest else (a, v) :: rest

/-- One byte of RAM written. -/
def Memory.write : Memory → Nat → Byte → Memory
  | [], a, v => Memory.cell a v []
  | (k, w) :: rest, a, v =>
    if k = a then Memory.cell a v rest
    else if a < k then Memory.cell a v ((k, w) :: rest)
    else (k, w) :: Memory.write rest a v

/-- Every listed address is above `lo`, rising, inside RAM, and holds something other than an unlisted byte. -/
def Memory.wfFrom : Option Nat → Memory → Bool
  | _, [] => true
  | lo, (k, v) :: rest =>
    (match lo with | none => true | some l => decide (l < k)) && decide (k < 0x8000) && (v != unlistedByte)
      && Memory.wfFrom (some k) rest

/-- The canonical form of RAM. -/
def Memory.wf (m : Memory) : Bool := Memory.wfFrom none m

/-- The byte RAM holds at an address. -/
def State.byteAt (s : State) (a : Addr) : Byte := Memory.read s.mem a.toNat

/-- A write that lands in RAM. -/
def writeByte (a : Addr) (v : Byte) (s : State) : State := s.withMem (Memory.write s.mem a.toNat v)

/-! ## The clock and the outside's inputs -/

/-- An event whose moment the rules give: the clock stands at that moment at least (log 5), and the phase of the tone out has
run on to it (R44, log 34). -/
def clockTo (due : Nat) (s : State) : State := s.withEnv (s.env.reaches s.lu (max s.env.now due))

/-- What the sensors show at the next reading: the level fed in, or a free value (log 10). -/
def nextSense (e : Surroundings) : Sense :=
  match e.senseIn with
  | x :: _ => x
  | [] => ⟨Config.supplySense e.senseUsed, Config.thermistor e.senseUsed⟩

/-- The inputs after a reading has used one sensor level. -/
def dropSense (e : Surroundings) : Surroundings :=
  match e.senseIn with
  | _ :: rest => { e with senseIn := rest }
  | [] => { e with senseUsed := e.senseUsed + 1 }

/-- The next order choice: the one fed in, or a free value (log 11). -/
def nextOrder (e : Surroundings) : Bool :=
  match e.orderIn with
  | x :: _ => x
  | [] => Config.boundaryFirst e.orderUsed

/-- The inputs after one order choice has been used. -/
def dropOrder (e : Surroundings) : Surroundings :=
  match e.orderIn with
  | _ :: rest => { e with orderIn := rest }
  | [] => { e with orderUsed := e.orderUsed + 1 }

/-! ## The control block in RAM (R1) -/

/-- The control block base (R1). -/
def State.base (s : State) : Nat := strapBase s.mp.straps

/-- The address of a control block offset (R1). -/
def State.blockAddr (s : State) (offset : Nat) : Addr := addrOf (s.base + offset)

/-- A host write is in the control block when its address lies from the base to the base plus 0x7F (R1). -/
def State.inBlock (s : State) (a : Addr) : Bool := s.base ≤ a.toNat && a.toNat ≤ s.base + 0x7F

/-- The page of an address: 256 bytes on a 256-byte boundary (00, Terms). -/
def pageOf (a : Nat) : Nat := a / 256

/-- The control block page (R1). -/
def State.blockPage (s : State) : Nat := pageOf s.base

/-! ## The guard table's sets (R14) -/

/-- The guarded set of a window (R14). -/
def Window.guards (w : Window) (page : Nat) : Bool :=
  w.enabled && (if w.invert then !(w.lower ≤ page && page ≤ w.upper) else (w.lower ≤ page && page ≤ w.upper))

/-- The window set: the union of the windows' guarded sets (R14). -/
def MemoryPath.windowSet (m : MemoryPath) (page : Nat) : Bool := m.windows.any (fun w => w.guards page)

/-- The device guarded set: the window set less the open page (R14). -/
def MemoryPath.guardedSet (m : MemoryPath) (page : Nat) : Bool := m.windowSet page && m.openPage != some page

/-! ## Ring areas (R38) -/

/-- An area of RAM: its first byte and its length. -/
structure Area where
  start : Nat
  length : Nat
  deriving DecidableEq, Repr

/-- The four rings of a geometry: transmit, stream, key, print queue (R38). -/
def Geometry.rings (g : Geometry) : List Area :=
  [⟨g.txBase.toNat * 256, g.txCap.toNat⟩, ⟨g.rxBase.toNat * 256, g.rxCap.toNat * 2⟩,
   ⟨g.keyBase.toNat * 256, g.keyCap.toNat * 4⟩, ⟨g.pqBase.toNat * 256, g.pqCap.toNat * 8⟩]

/-- The keymap's area: 320 bytes (R38). -/
def Geometry.keymap (g : Geometry) : Area := ⟨g.keymapBase.toNat * 256, 320⟩

/-- Two areas share a byte. -/
def Area.overlaps (a b : Area) : Bool :=
  0 < a.length && 0 < b.length && a.start < b.start + b.length && b.start < a.start + a.length

/-- A page holds a byte of an area. -/
def Area.onPage (a : Area) (page : Nat) : Bool := a.overlaps ⟨page * 256, 256⟩

/-- The pages of RAM, 0..127. -/
def pages : List Nat := List.range 128

/-! ## Effective temperatures (R174) -/

/-- The head temperature SM holds, 0 while it holds none (R174). -/
def State.headTemp (s : State) : Int := s.sm.headTemp.getD 0

/-- Teff of each segment: Th + floor(Hs / 16), not clamped (R174). -/
def State.teffs (s : State) : List Int := s.hm.estimates.map (fun h => s.headTemp + ((h / 16 : Nat) : Int))

/-- Some Teff is at or above a limit. -/
def State.hotAt (s : State) (limit : Nat) : Bool := s.teffs.any (fun t => (limit : Int) ≤ t)

/-- HOTTEST: the largest Teff, clamped into 0..255 (R174). -/
def State.hottest (s : State) : Nat := (clampInt 0 255 (s.teffs.foldl max 0)).toNat

/-! ## The status mirror (R37) -/

/-- A window's mirror flags: bit 0 ENABLE, bit 1 INVERT (2.8.1). -/
def Window.flags (w : Window) : Nat := bitVal w.enabled 1 + bitVal w.invert 2

/-- The value behind a status offset (R37); both offsets of a 16-bit value have the whole value behind them. -/
def statusValue (s : State) (offset : Nat) : Nat :=
  match offset with
  | 0x1C => s.cbm.flagsLo.toNat
  | 0x1D => s.cbm.flagsHi.toNat
  | 0x1E => summary s
  | 0x1F => s.lu.lineState.code
  | 0x20 => s.ps.engine.code
  | 0x21 => s.lu.qs
  | 0x22 => s.sm.supply.getD 0
  | 0x23 => (BitVec.ofInt 8 s.headTemp).toNat
  | 0x24 => s.hottest
  | 0x25 => s.mp.guardHits
  | 0x26 => s.mp.guardFirst.toNat
  | 0x27 => s.mp.guardFirst.toNat
  | 0x28 => s.su.lostTotal
  | 0x29 => s.su.lostTotal
  | 0x2A => s.mp.openPage.getD 0xFF
  | 0x2B => bitVal s.mp.tight 1
  | n =>
    let w := s.mp.windows.getD ((n - 0x30) / 3) clearWindow
    match (n - 0x30) % 3 with
    | 0 => w.flags
    | 1 => w.lower
    | _ => w.upper

/-- The byte a write-back of a status offset carries (R37): the high byte of GUARD_FIRST and LOST_TOTAL at 0x27 and 0x29,
the low byte of the value elsewhere. -/
def statusByte (s : State) (offset : Nat) : Byte :=
  if offset = 0x27 ∨ offset = 0x29 then byteOf (statusValue s offset / 256) else byteOf (statusValue s offset)

/-- Offsets that join the dirty set; the set stays in ascending order without duplicates (R37). -/
def addDirty (joins : Nat → Bool) (s : State) : State :=
  s.withCbm { s.cbm with dirty := statusOffsets.filter (fun o => s.cbm.dirty.contains o || joins o) }

/-- The offsets whose value an event changed, from the state before it, join the dirty set (R37, log 14). -/
def mirror (before s : State) : State := addDirty (fun o => statusValue before o != statusValue s o) s

/-! ## Accesses presented at the RAM port (R9) -/

/-- The internal requesters (R9). -/
inductive Requester where
  | su | lu | ks | ps | cbm
  deriving DecidableEq, Repr

/-- CBM still owes the 0x00 write of a part index: its owner presents no write of it (R24). -/
def State.clearOwed (s : State) (i : PartIndex) : Bool := s.cbm.answers.contains (.partIndex i)

/-- Whether a requester presents an access (R9, R24). -/
def presents (s : State) : Requester → Bool
  | .su => match s.su.deposit with
    | .none => false
    | .indexWait => !s.clearOwed .rxProd
    | _ => true
  | .lu => match s.lu.ringFetch with
    | .none => false
    | .readWait => true
    | .indexWait => !s.clearOwed .txCons
  | .ks => match s.ks.proc with
    | .none => false
    | .indexWait => !s.clearOwed .keyProd
    | _ => true
  | .ps => match s.ps.access with
    | none => false
    | some .indexWrite => !s.clearOwed .pqCons
    | some _ => true
  | .cbm => s.cbm.access.isSome

/-- Some internal access is waiting (R10). -/
def internalWaiting (s : State) : Bool :=
  presents s .su || presents s .lu || presents s .ks || presents s .ps || presents s .cbm

/-- The internal access a slot that goes to the internal side is granted to (R11); none while the reset line is held (R13)
or when none waits. -/
def pick (s : State) : Option Requester :=
  if s.mp.resetHeld then none
  else if 16 ≤ s.mp.passCount && presents s .cbm then some .cbm
  else if presents s .su then some .su
  else if presents s .lu then some .lu
  else if presents s .ks then some .ks
  else if presents s .ps then some .ps
  else if presents s .cbm then some .cbm
  else none

/-- The counts after an internal grant (R10, R11), judged by the accesses waiting in that slot. -/
def countInternal (r : Requester) (s : State) : State :=
  s.withMp { s.mp with
    hostRun := 0
    passCount := if r = .cbm then 0 else if presents s .cbm then s.mp.passCount + 1 else 0 }

/-- The wait signal (R10, R13): a host access has been presented and is not yet granted. It stands while the reset line is
held, and through the slot that the internal side takes from a host access. -/
def waitAsserted (s : State) : Bool := !s.mp.hostWaiting.isEmpty

/-- The arbiter's side of a host grant: the counts (R10, R11), judged by the accesses waiting in that slot, and the end of the
granted access's wait (R10). -/
def countHost (s : State) : State :=
  s.withMp { s.mp with
    hostRun := if internalWaiting s then s.mp.hostRun + 1 else 0
    passCount := if presents s .cbm then s.mp.passCount else 0
    hostWaiting := s.mp.hostWaiting.tail
    hostWaited := waitAsserted s }

/-! ## What PS and CBM present next (R24, R37, R135) -/

/-- PS's next access (R135): the result write of the completion list's head, else the next fetch read owed (R136, R137). -/
def nextPsAccess (s : State) : Option PsAccess :=
  match s.cbm.geometry with
  | none => none
  | some g =>
    match s.ps.completion with
    | _ :: _ => some .resultWrite
    | [] =>
      match s.ps.cache with
      | .fetching pos bytes => some (.descriptorRead (addrOf (g.pqBase.toNat * 256 + 8 * pos + bytes.length)) false)
      | .loading _ d _ k => some (.imageRead (addrOf (d.imageAddr + k)) false)
      | _ => none

/-- PS presents its next access as soon as it has none presented (R135). -/
def presentPs (s : State) : State :=
  match s.ps.access with
  | some _ => s
  | none => s.withPs { s.ps with access := nextPsAccess s }

/-- CBM's next access: the answer queue ahead of the lowest offset of the dirty set (R24, R37). -/
def nextCbmAccess (c : ControlBlock) : Option CbmAccess :=
  match c.answers with
  | _ :: _ => some .answer
  | [] => match c.dirty with
    | o :: _ => some (.status o)
    | [] => none

/-- CBM presents its next access as soon as it has none waiting (R24, R37). -/
def presentCbm (s : State) : State :=
  match s.cbm.access with
  | some _ => s
  | none => s.withCbm { s.cbm with access := nextCbmAccess s.cbm }

/-! ## Applied ring geometry -/

/-- A field of the applied geometry as a number, 0 while the rings are UNSET (section 2.7). -/
def State.geo (s : State) (field : Geometry → Byte) : Nat :=
  match s.cbm.geometry with
  | none => 0
  | some g => (field g).toNat

/-- The rings are set. -/
def State.ringsSet (s : State) : Bool := s.cbm.geometry.isSome

/-- (a − b) taken modulo a capacity, for positions below it (R31). -/
def ringDiff (cap a b : Nat) : Nat := (a + cap - b) % cap

/-- The position after one, taken modulo a capacity. -/
def ringNext (cap a : Nat) : Nat := (a + 1) % cap

/-- The engine enters a state (R139). -/
def setEngine (e : Engine) (s : State) : State := s.withPs { s.ps with engine := e }

end Sys2Proof.Machine
end

