-- ==== Sys2Proof/Machine/Paper.lean ====
section
/-! DEFINITION. The paper drive (section 9.6): the step gate, the step attempts, the start of a step. -/

namespace Sys2Proof.Machine

open Sys2Proof

/-- The receiver is inside a frame: only in FRAME (R69). -/
def Receiver.insideFrame : Receiver → Bool
  | .frame _ => true
  | _ => false

/-- The step gate is in force (R182). -/
def gateInForce (s : State) : Bool :=
  match s.cbm.settings.stepGate with
  | .off => false
  | .quiet => s.lu.lineState == .online && s.lu.quiet
  | .always => s.lu.lineState == .online

/-- A step attempt allows the step: the gate is not in force, or the receiver is outside a frame and the idle-mark
indicator is set (R182, R183). -/
def attemptAllows (s : State) : Bool :=
  !gateInForce s || (!s.lu.receiver.insideFrame && s.lu.idleMark)

/-- The receiver states as the gate's inputs see them, FRAME and CANDIDATE without their records (R183). -/
def Receiver.stage : Receiver → Nat
  | .idle => 0
  | .hunt => 1
  | .verify => 2
  | .frame _ => 3
  | .candidate _ => 4
  | .brk => 5

/-- Some input of the step gate differs between two states (R183). -/
def gateChanged (before s : State) : Bool :=
  before.lu.receiver.stage != s.lu.receiver.stage || before.lu.idleMark != s.lu.idleMark
    || before.lu.lineState != s.lu.lineState || before.lu.quiet != s.lu.quiet
    || before.cbm.settings.stepGate != s.cbm.settings.stepGate

/-- LU is told that a step begins: a receiver in FRAME marks its frame for WEAK (R73, R181). -/
def markOverlap (l : LineUnit) : LineUnit :=
  match l.receiver with
  | .frame r => { l with receiver := .frame { r with overlap := true } }
  | _ => l

/-- A step begins (R181), and the engine enters STEP (R180). -/
def beginStep (s : State) : State :=
  setEngine .step
    ((s.withPd { s.pd with stepState := .stepping, stepStart := some s.env.now, gateWait := none }).withLu
      (markOverlap s.lu))

/-- PS asks for a step: the first attempt begins it, or PD waits at the gate (R180). -/
def requestStep (s : State) : State :=
  if attemptAllows s then beginStep s
  else setEngine .stepWait (s.withPd { s.pd with stepState := .waiting, gateWait := some s.env.now })

/-- While WAITING, PD makes a further attempt at each change of its inputs (R183). It is made once, at the end of the event that
changes them (log 33). -/
def reattempt (before s : State) : State :=
  if s.pd.stepState = .waiting ∧ gateChanged before s = true ∧ attemptAllows s = true then beginStep s else s

/-- The end of an event: the gate's further attempt (R183), the status mirror (R37), and the accesses PS and CBM present
next (R135, R24, log 15). Where the Qs update of a completing frame turns quiet mode off under STEP_GATE QUIET (R74 step 1), no
rule orders the step that PD then begins against the WEAK judgement of that frame and the leaving of FRAME. The model attempts
after both, so the step does not mark that frame (log 33, the model's choice). -/
def settle (before s : State) : State := presentCbm (presentPs (mirror before (reattempt before s)))

/-- A whole, indivisible event: its effect, then the end of the event. -/
def event (effect : State → State) (s : State) : Host.Outcome State Fault Refusal := .next (settle s (effect s))

end Sys2Proof.Machine
end

