-- ==== Sys2Proof/Machine/Heat.lean ====
section
/-! DEFINITION. Readings (section 9.1), heat estimates (9.3) and the checks made against them (9.2, 9.4, 9.5). -/

namespace Sys2Proof.Machine

open Sys2Proof

/-- The supply value of a reading: tenths of a volt, rounded down, clamped into 0..99 (R169). -/
def supplyOf (x : Sense) : Nat := clamp 0 99 (x.millivolts / 100)

/-- The temperature value of a reading: °C, rounded down, clamped into −20..100 (R169). -/
def headTempOf (x : Sense) : Int := clampInt (-20) 100 (x.millidegrees / 1000)

/-- A supply below 46 sets BATTERY_LOW (R169). -/
def judgeSupply (v : Nat) (s : State) : State := if v < 46 then setFlag .batteryLow s else s

/-- SM takes a reading (R168, R169). -/
def takeReading (s : State) : State :=
  let x := nextSense s.env
  judgeSupply (supplyOf x)
    ((s.withEnv (dropSense s.env)).withSm { s.sm with supply := some (supplyOf x), headTemp := some (headTempOf x) })

/-- The supply reading SM holds is below a level (R170, R171); no reading is below none. -/
def supplyBelow (level : Nat) (s : State) : Bool :=
  match s.sm.supply with
  | some v => decide (v < level)
  | none => false

/-- The reading timer starts from 0 (R168). -/
def startReadingTimer (s : State) : State := s.withSm { s.sm with readingTimer := some s.env.now }

/-- The reading timer stops (R168). -/
def stopReadingTimer (s : State) : State := s.withSm { s.sm with readingTimer := none }

/-- The heat a segment gains from one phase (R172). -/
def heatGain (c : SegmentCount) (p : Pulse) : Nat := (c.fresh * p.full + c.held * p.held) / 512

/-- An estimate after a gain, at most 1023 (R172). -/
def heated (h gain : Nat) : Nat := min 1023 (h + gain)

/-- The estimates after one segment of a phase has been handed to HM (R172). -/
def heatSegment (counts : List SegmentCount) (estimates : List Nat) (p : Pulse) : List Nat :=
  match counts.find? (fun c => c.segment == p.segment) with
  | none => estimates
  | some c => estimates.set p.segment (heated (estimates.getD p.segment 0) (heatGain c p))

/-- An estimate after a cooling tick: it loses the larger of 1 and a sixteenth, and 0 stays 0 (R173). -/
def cooled (h : Nat) : Nat := if h = 0 then 0 else h - max 1 (h / 16)

/-- Every estimate cools (R173). -/
def coolAll (s : State) : State := s.withHm { s.hm with estimates := s.hm.estimates.map cooled }

end Sys2Proof.Machine
end

