-- ==== Sys2Proof/Machine/Strobe.lean ====
section
/-! DEFINITION. The strobe planner (chapter 8): allowance, counts, phases, pulses, and what is driven. -/

namespace Sys2Proof.Machine

open Sys2Proof

/-- The allowance A (R158). -/
def allowance (supply : Nat) (quiet : Bool) : Nat :=
  let full := if 60 ≤ supply then 216 else if 52 ≤ supply then 144 else 72
  if quiet then max 72 (full / 2) else full

/-- The number of 1 bits of a byte. -/
def onDots (b : Byte) : Nat := (List.range 8).countP (fun i => b.getLsbD i)

/-- The row bytes of segment s: 9s to 9s + 8 (R138). -/
def segmentBytes (image : Image) (segment : Nat) : List Byte := (image.drop (9 * segment)).take 9

/-- The history a decision gives: BLANK is all off (R147, R159). -/
def historyImage (decision : HistoryImage) : Image := decision.getD blankImage

/-- The counts of a segment (R159). -/
def countSegment (image : Image) (decision : HistoryImage) (segment : Nat) : SegmentCount :=
  let row := segmentBytes image segment
  let old := segmentBytes (historyImage decision) segment
  { segment := segment
    on := (row.map onDots).sum
    fresh := (List.zipWith (fun r o => onDots (r &&& ~~~o)) row old).sum
    held := (List.zipWith (fun r o => onDots (r &&& o)) row old).sum }

/-- The segments not yet burned, in ascending order. -/
def unburned (burned : List Nat) : List Nat := (List.range 8).filter (fun i => !burned.contains i)

/-- Phase planning (R160): the segments still to place, the open phase, its dot total. -/
def placeSegments (a : Nat) : List SegmentCount → List Nat → Nat → List (List Nat)
  | [], [], _ => []
  | [], phase, _ => [phase]
  | c :: rest, phase, total =>
    if c.on = 0 then placeSegments a rest phase total
    else match phase with
      | [] => placeSegments a rest [c.segment] c.on
      | p :: ps =>
        if total + c.on ≤ a then placeSegments a rest (p :: ps ++ [c.segment]) (total + c.on)
        else (p :: ps) :: placeSegments a rest [c.segment] c.on

/-- The energy constant Q_D (R162). -/
def energy (darkness : Nat) : Nat := 1000000 + 100000 * darkness

/-- t_base (R162, steps 1 to 3). -/
def baseTime (supply darkness : Nat) : Nat :=
  let v := clamp 44 75 supply
  energy darkness / (v * v)

/-- F from Teff (R162, steps 5 and 6). -/
def heatFactor (teff : Int) : Nat := (256 + 4 * (25 - clampInt 0 70 teff)).toNat

/-- t_full (R162, steps 7 and 8). -/
def fullTime (base : Nat) (teff : Int) : Nat := clamp 150 1500 (base * heatFactor teff / 256)

/-- t_held (R162, step 9). -/
def heldTime (full ratio : Nat) : Nat := full * ratio / 8

/-- The pulse of one segment at a phase start (R162): the plan's readings and settings, and the segment's estimate. -/
def pulseOf (p : Plan) (estimate segment : Nat) : Pulse :=
  let full := fullTime (baseTime p.supply p.darkness) (p.headTemp + ((estimate / 16 : Nat) : Int))
  ⟨segment, full, heldTime full p.ratio⟩

/-- A phase's duration: the largest t_full among its segments (R163). -/
def phaseDuration (pulses : List Pulse) : Nat := (pulses.map Pulse.full).foldl max 0

/-- A row image with only some segments' dots kept (R163). -/
def keepSegments (image : Image) (segments : List Nat) : Image :=
  List.zipWith (fun b i => if segments.contains (i / 9) then b else 0) image (List.range 72)

/-- The dot data with the held dots of one segment at 0 (R163). -/
def dropHeldDots (data image : Image) (decision : HistoryImage) (segment : Nat) : Image :=
  List.zipWith
    (fun (x : Byte × Byte × Byte) i => if i / 9 = segment then x.1 &&& ~~~(x.2.1 &&& x.2.2) else x.1)
    (List.zip data (List.zip image (historyImage decision))) (List.range 72)

/-- SP makes the plan of a row from the state at a plan point (R157 to R160), with its first phase the current one. -/
def makePlan (s : State) (r : RowRecord) (decision : HistoryImage) : Plan :=
  let counts := (unburned r.burned).map (countSegment s.ps.latchImage decision)
  let v := s.sm.supply.getD 0
  { supply := v
    headTemp := s.headTemp
    darkness := r.darkness
    ratio := r.ratio
    decision := decision
    allowance := allowance v s.lu.quiet
    counts := counts
    phases := placeSegments (allowance v s.lu.quiet) counts [] 0
    current := 0 }

/-- The pulses of the plan's current phase, from the estimates at this moment (R162). -/
def phasePulses (p : Plan) (estimates : List Nat) : List Pulse :=
  (p.phases.getD p.current []).map (fun i => pulseOf p (estimates.getD i 0) i)

/-- Every strobe off and no phase under way (R163). -/
def strobesOff (s : State) : State := s.withSp { s.sp with pulses := [], phaseStart := none, strobes := [] }

/-- The plan, its readings and its counts discarded (R157, R166). -/
def discardPlan (s : State) : State := s.withSp { s.sp with plan := none }

end Sys2Proof.Machine
end

