-- ==== Sys2Proof/Machine/Print.lean ====
section
/-! DEFINITION. The print sequencer (chapter 7) with the waits of chapter 9: fetch and cache, from one descriptor to the
next, the row cycle, feeds, hold, cancel, ERROR_STOP. -/

namespace Sys2Proof.Machine

open Sys2Proof

/-! ## Fetch (R136) -/

/-- A descriptor is waiting: Q is greater than F and the queue is not wound back (R136). -/
def descriptorWaiting (s : State) : Bool :=
  let cap := s.geo Geometry.pqCap
  !s.ps.woundBack
    && decide (ringDiff cap s.ps.fetchIndex s.ps.consumer < ringDiff cap s.cbm.pqProd s.ps.consumer)

/-- All the conditions under which a fetch begins hold together (R136). -/
def canFetch (s : State) : Bool :=
  s.ringsSet && !s.cbm.standby && s.ps.cache == .empty && s.ps.engine != .errorStop && s.ps.cancel.isNone
    && descriptorWaiting s

/-- A fetch begins (R136). -/
def beginFetch (s : State) : State :=
  s.withPs { s.ps with
    cache := .fetching s.ps.fetchIndex []
    fetchIndex := ringNext (s.geo Geometry.pqCap) s.ps.fetchIndex }

/-- A fetch begins if it may (R136). -/
def tryFetch (s : State) : State := if canFetch s then beginFetch s else s

/-- The same, and an IDLE engine enters WAIT_CACHE with it (R140). -/
def fetchWork (s : State) : State :=
  if canFetch s then
    if s.ps.engine = .idle then setEngine .waitCache (beginFetch s) else beginFetch s
  else s

/-- An accepted PQ_PROD write lands on the path from the PQ consumer to the fetch index, the fetch index not included
(R136). -/
def onFetchedPath (s : State) (value : Nat) : Bool :=
  let cap := s.geo Geometry.pqCap
  decide (ringDiff cap value s.ps.consumer < ringDiff cap s.ps.fetchIndex s.ps.consumer)

/-- PS acts on the PQ_PROD shadow as it stands (R31, R136). -/
def actOnPqProd (s : State) : State :=
  fetchWork (s.withPs { s.ps with woundBack := onFetchedPath s s.cbm.pqProd })

/-! ## Cancel (R153) -/

/-- The completion record a cancel makes for the latch (R153, step 1). -/
def cancelLatch (latch : Option Latch) : List Completion :=
  match latch with
  | none => []
  | some l => [⟨l.position, .cancelled⟩]

/-- The completion record a cancel makes for the cache (R153, step 2). -/
def cancelCache : Cache → List Completion
  | .empty => []
  | .bad p => [⟨p, .badDesc⟩]
  | .fetching p _ => [⟨p, .cancelled⟩]
  | .loading p _ _ _ => [⟨p, .cancelled⟩]
  | .ready p _ _ => [⟨p, .cancelled⟩]

/-- The records for the unfetched positions from the fetch index up to the limit, the limit not included (R153, step 3). -/
def cancelUnfetched (cap fetchIndex limit : Nat) : List Completion :=
  (List.range (ringDiff cap limit fetchIndex)).map (fun i => ⟨(fetchIndex + i) % cap, .cancelled⟩)

/-- A read PS has presented is granted in its turn and its byte is discarded (R153, step 2). -/
def discardRead (access : Option PsAccess) : Option PsAccess :=
  match access with
  | some (.descriptorRead a _) => some (.descriptorRead a true)
  | some (.imageRead a _) => some (.imageRead a true)
  | other => other

/-- The history after a cancel: BLANK when the row it abandons has burned a phase (R147). -/
def historyAfterCancel (row : Option RowRecord) (history : Option HistoryRecord) : Option HistoryRecord :=
  match row with
  | some r => if r.burned = [] then history else none
  | none => history

/-- The queue part of a cancel (R153, steps 1 to 5): records, latch, cache, fetch index, feeds, hold, history. With the
rings UNSET there are no write-backs and the fetch index stays (R151). With a limit that was not ahead at the take the fetch
index stays too, the model's choice (log 18: R153's "then takes the limit" would move it back over fetched positions). -/
def cancelQueue (c : CancelRequest) (s : State) : State :=
  let cap := s.geo Geometry.pqCap
  let records :=
    if s.ringsSet then
      cancelLatch s.ps.latch ++ cancelCache s.ps.cache
        ++ (if c.ahead then cancelUnfetched cap s.ps.fetchIndex c.limit else [])
    else []
  s.withPs { s.ps with
    latch := none
    cache := .empty
    access := discardRead s.ps.access
    completion := s.ps.completion ++ records
    fetchIndex := if s.ringsSet && c.ahead then c.limit else s.ps.fetchIndex
    localFeeds := 0
    holdRequest := false
    cancel := none
    rowKind := none
    row := none
    history := historyAfterCancel s.ps.row s.ps.history }

/-- A BAD cache sets PRINT_DESC_ERROR at a cancel (R153, step 2). -/
def cancelBadFlag (s : State) : State :=
  match s.ps.cache with
  | .bad _ => setFlag .printDescError s
  | _ => s

/-- The timers, the halt and the plan end with the row a cancel abandons (R166, R171, R176, R179). -/
def cancelWaits (s : State) : State :=
  (discardPlan (stopReadingTimer s)).withHm { s.hm with pacing := none, halt := .none }

/-- The engine needs the cache when a cancel has emptied it (R153, step 6). -/
def needEmptied (s : State) : State :=
  if s.ps.engine = .errorStop then s
  else
    let s1 := setEngine .idle s
    if canFetch s1 then setEngine .waitCache (beginFetch s1) else s1

/-- A pending cancel takes effect (R153). -/
def cancelEffect (s : State) : State :=
  match s.ps.cancel with
  | none => s
  | some c => needEmptied (cancelWaits (cancelQueue c (cancelBadFlag s)))

/-! ## The waiting states -/

/-- The engine enters HELD (R149); a pending cancel takes effect in that event (R152). -/
def enterHeld (point : HeldPoint) (s : State) : State :=
  cancelEffect (setEngine .held (s.withPs { s.ps with heldPoint := point }))

/-- The engine enters BATTERY_HOLD, noting whether at its row start (R170). -/
def enterBatteryHold (atStart : Bool) (s : State) : State :=
  let row := s.ps.row.map (fun r => { r with batteryAtStart := atStart })
  cancelEffect (startReadingTimer (setEngine .batteryHold (s.withPs { s.ps with row := row })))

/-- The engine enters HOT_HALT (R177). -/
def enterHotHalt (s : State) : State :=
  cancelEffect
    (startReadingTimer
      (setEngine .hotHalt ((setFlag .hotStop s).withHm { s.hm with halt := .ackWait })))

/-- The engine enters COOL_PACE (R175). -/
def enterCoolPace (s : State) : State :=
  startReadingTimer
    (setEngine .coolPace ((setFlag .hotWarn s).withHm { s.hm with pacing := some s.env.now }))

/-! ## The row cycle (R143, R144) -/

/-- A phase burns: its pulses are worked out, its strobes turn on, its dots are loaded (R162, R163), and the history
decision is fixed (R147). -/
def burnPhase (p : Plan) (r : RowRecord) (s : State) : State :=
  let segments := p.phases.getD p.current []
  let s1 := s.withPs { s.ps with engine := .burn, row := some { r with phaseStarted := true } }
  s1.withSp { s1.sp with
    plan := some p
    pulses := phasePulses p s.hm.estimates
    phaseStart := some s.env.now
    strobes := segments
    dotData := keepSegments s.ps.latchImage segments }

/-- A phase starts with the STOP check over all eight segments (R144, R177). -/
def startPhase (p : Plan) (r : RowRecord) (s : State) : State :=
  if s.hotAt r.stop then enterHotHalt (s.withSp { s.sp with plan := some p }) else burnPhase p r s

/-- The history decision at a plan point (R147): fixed once a phase has started, else the record's image unless it is BLANK
or more than 50 ms old. -/
def judgeHistory (r : RowRecord) (s : State) : HistoryImage :=
  match r.phaseStarted, r.decision with
  | true, some d => d
  | _, _ =>
    match s.ps.history with
    | none => none
    | some h => if 50000 < s.env.now - h.time then none else some h.image

/-- A plan point (R143): a set hold request is taken; otherwise SP plans, and the first phase starts, or an empty plan goes
straight to the step. -/
def planPoint (s : State) : State :=
  match s.ps.row with
  | none => s
  | some r =>
    if s.ps.holdRequest then enterHeld .inRow s
    else
      let decision := judgeHistory r s
      let r1 := { r with decision := some decision }
      let p := makePlan s r1 decision
      let s1 := s.withPs { s.ps with row := some r1 }
      match p.phases with
      | [] => requestStep (s1.withSp { s1.sp with plan := some p })
      | _ => startPhase p r1 (setEngine .burn s1)

/-- The WARN check of a row start (R175), and the plan point if it passes. -/
def warnCheck (s : State) : State :=
  match s.ps.row with
  | none => s
  | some r => if s.hotAt r.warn then enterCoolPace s else planPoint s

/-- The darkness a row takes (R143). -/
def rowDarkness (d : Option Nat) (t : Settings) : Nat := d.getD t.darkness

/-- The row record formed at a row start (R143, R30). -/
def newRow (darkness : Option Nat) (t : Settings) : RowRecord where
  darkness := rowDarkness darkness t
  ratio := t.history
  warn := t.warnTemp
  stop := t.stopTemp
  burned := []
  decision := none
  phaseStarted := false
  batteryAtStart := false

/-- A DOTS or REPEAT row starts (R143): row record, readings, battery check, WARN check, plan point. -/
def startBurnRow (darkness : Option Nat) (s : State) : State :=
  let s1 := s.withPs { s.ps with rowKind := some .burning, row := some (newRow darkness s.cbm.settings) }
  let s2 := takeReading s1
  if supplyBelow 44 s2 then enterBatteryHold true s2 else warnCheck s2

/-- A feed row starts: straight to the step (R145). -/
def startFeedRow (kind : RowKind) (s : State) : State :=
  requestStep (s.withPs { s.ps with rowKind := some kind, row := none })

/-- The latch's next row starts (R142). -/
def startLatchRow (s : State) : State :=
  match s.ps.latch with
  | none => s
  | some l => match l.kind with
    | .feed => startFeedRow .latchFeed s
    | _ => startBurnRow l.darkness s

/-- A local feed row starts, and the count falls by one (R145). -/
def startLocalFeed (s : State) : State :=
  startFeedRow .localFeed (s.withPs { s.ps with localFeeds := s.ps.localFeeds - 1 })

/-- A row held, halted or out of supply resumes with the readings just taken: battery check, then plan point (R150). -/
def resumeRow (s : State) : State :=
  if supplyBelow 44 s then enterBatteryHold false s else planPoint s

/-! ## From one descriptor to the next (R140) -/

/-- The transfer of a READY cache to the latch (R140); the next fetch may begin in the same event. -/
def transfer (position : Nat) (d : Descriptor) (image : Image) (s : State) : State :=
  tryFetch (s.withPs { s.ps with
    latch := some ⟨position, d.kind, d.rows, d.darkness⟩
    latchImage := if d.kind = .dots then image else s.ps.latchImage
    cache := .empty })

/-- The engine needs the cache (R140). -/
def needCache (s : State) : State :=
  match s.ps.cache with
  | .ready position d image => startLatchRow (transfer position d image s)
  | .bad position =>
    setEngine .errorStop (setFlag .printDescError (s.withPs { s.ps with
      completion := s.ps.completion ++ [⟨position, .badDesc⟩]
      cache := .empty }))
  | .empty => if canFetch s then setEngine .waitCache (beginFetch s) else setEngine .idle s
  | _ => setEngine .waitCache s

/-- Steps 5 to 7 of a row end (R141): the latch's next row, a local feed row, or the cache. -/
def nextRow (s : State) : State :=
  match s.ps.latch with
  | some _ => startLatchRow s
  | none => if 0 < s.ps.localFeeds then startLocalFeed s else needCache s

/-- In IDLE and WAIT_CACHE a change of the cache's state makes the engine need it (R140). -/
def cacheChanged (s : State) : State :=
  if s.ps.engine = .idle ∨ s.ps.engine = .waitCache then needCache s else s

/-! ## The row end (R141) -/

/-- The history record at a row end (R147): the row's image and this moment after a burning row, BLANK after a feed row. -/
def rowEndHistory (s : State) : Option HistoryRecord :=
  match s.ps.rowKind with
  | some .burning => some ⟨s.ps.latchImage, s.env.now⟩
  | _ => none

/-- Steps 1 and 2 of a row end (R141): history, rows remaining, DONE; the plan and the row record end with the row. -/
def closeRow (s : State) : State :=
  let s1 := discardPlan (s.withPs { s.ps with history := rowEndHistory s, row := none, rowKind := none })
  match s.ps.rowKind, s.ps.latch with
  | some .localFeed, _ => s1
  | _, none => s1
  | _, some l =>
    if l.remaining ≤ 1 then
      s1.withPs { s1.ps with latch := none, completion := s1.ps.completion ++ [⟨l.position, .done⟩] }
    else s1.withPs { s1.ps with latch := some { l with remaining := l.remaining - 1 } }

/-- A row end (R141). -/
def rowEnd (s : State) : State :=
  let s1 := closeRow s
  match s1.ps.cancel with
  | some _ => cancelEffect s1
  | none => if s1.ps.holdRequest then enterHeld .betweenRows s1 else nextRow s1

/-! ## Hold (R148 to R150) -/

/-- The hold request is set; IDLE and WAIT_CACHE take it at once outside standby (R149, R155). -/
def setHold (s : State) : State :=
  let s1 := s.withPs { s.ps with holdRequest := true }
  if (s.ps.engine = .idle ∨ s.ps.engine = .waitCache) ∧ s.cbm.standby = false then enterHeld .betweenRows s1 else s1

/-- The hold request is cleared, and a HELD engine goes on (R150). -/
def clearHold (s : State) : State :=
  let s1 := s.withPs { s.ps with holdRequest := false }
  if s.ps.engine = .held then
    match s.ps.heldPoint with
    | .betweenRows => nextRow s1
    | .inRow => resumeRow (takeReading s1)
  else s1

/-- The HOLD key toggles the hold request (R148). -/
def toggleHold (s : State) : State := if s.ps.holdRequest then clearHold s else setHold s

/-- One local feed arrives (R146). -/
def localFeed (s : State) : State :=
  let s1 := s.withPs { s.ps with localFeeds := satSucc 15 s.ps.localFeeds }
  if (s.ps.engine = .idle ∨ s.ps.engine = .waitCache) ∧ s.cbm.standby = false then startLocalFeed s1 else s1

/-! ## Cancel taken, ERROR_STOP left, standby ended -/

/-- Whether a cancel waits for the row end (R152). -/
def Engine.cancelWaitsRowEnd : Engine → Bool
  | .burn | .stepWait | .step => true
  | _ => false

/-- The PQ_PROD shadow lies ahead of the fetch index, or on it: the queue is not wound back, and the path from the PQ consumer
to the shadow is as long as the one to the fetch index (R136, R153). -/
def limitAhead (s : State) : Bool := !s.ps.woundBack && !onFetchedPath s s.cbm.pqProd

/-- PRINT_CANCEL (R151, R152), with the limit judged at its take (log 18). -/
def requestCancel (s : State) : State :=
  let s1 := s.withPs { s.ps with cancel := some ⟨s.cbm.pqProd, limitAhead s⟩ }
  if s.ps.engine.cancelWaitsRowEnd then s1 else cancelEffect s1

/-- PS with an idle engine looks at what waits: a set hold request is taken, a waiting descriptor begins a fetch, waiting
feeds run (R154, R155, log 19). -/
def idleWork (s : State) : State :=
  if s.ps.holdRequest then tryFetch (enterHeld .betweenRows s)
  else if 0 < s.ps.localFeeds then startLocalFeed (tryFetch s)
  else needCache s

/-- CBM reports an acknowledgement of PRINT_DESC_ERROR: the exit from ERROR_STOP (R154). -/
def acknowledgeDescError (s : State) : State :=
  if s.ps.engine = .errorStop then idleWork (setEngine .idle s) else s

/-- The end of standby at PS (R41, R155): it acts on the PQ_PROD shadow, and on what waits. -/
def endStandbyPrint (s : State) : State :=
  let s1 := if s.ringsSet then actOnPqProd s else s
  if s1.ps.engine = .idle ∨ s1.ps.engine = .waitCache then idleWork s1 else s1

/-! ## The ends of the waits (chapter 9) -/

/-- The STOP halt ends and the row resumes with new readings (R179). -/
def endHalt (s : State) : State :=
  resumeRow (takeReading (stopReadingTimer (s.withHm { s.hm with halt := .none })))

/-- WARN pacing ends: both timers stop, battery check against the reading SM holds, plan point (R176, R143). -/
def endPacing (s : State) : State :=
  resumeRow (stopReadingTimer (s.withHm { s.hm with pacing := none }))

/-- The battery hold ends (R171). -/
def endBatteryHold (s : State) : State :=
  let s1 := stopReadingTimer s
  match s.ps.row with
  | none => s1
  | some r => if r.batteryAtStart then warnCheck s1 else planPoint s1

/-- CBM reports an acknowledgement of HOT_STOP with whether the flag re-latched (R178). -/
def acknowledgeHotStop (relatched : Bool) (s : State) : State :=
  match s.hm.halt, s.ps.row with
  | .ackWait, some r =>
    if relatched then s
    else if s.hotAt r.warn then s.withHm { s.hm with halt := .coolWait } else endHalt s
  | _, _ => s

/-- What a cooling tick may end (R176, R179): pacing in COOL_PACE, the halt in COOL_WAIT, once every Teff is below the row's
WARN. -/
def judgeTick (s : State) : State :=
  match s.ps.row with
  | none => s
  | some r =>
    if s.hotAt r.warn then s
    else if s.ps.engine = .coolPace then endPacing s
    else if s.ps.engine = .hotHalt ∧ s.hm.halt = .coolWait then endHalt s
    else s

end Sys2Proof.Machine
end

