-- ==== Sys2Proof/Machine/Stream.lean ====
section
/-! DEFINITION. The stream unit (chapter 5) and the transmit arbiter it shares events with (sections 4.4, 4.5). -/

namespace Sys2Proof.Machine

open Sys2Proof

/-! ## Staging and deposit (5.2, 5.3) -/

/-- The stream ring is full (R100). -/
def streamFull (s : State) : Bool := ringNext (s.geo Geometry.rxCap) s.su.producer == s.su.consumerCopy

/-- A deposit begins once all its conditions hold together (R100). -/
def tryDeposit (s : State) : State :=
  if s.ringsSet && !s.su.staging.isEmpty && s.su.deposit == .none && !streamFull s then
    s.withSu { s.su with deposit := .byte0Wait }
  else s

/-- An arrival is counted as lost (R96, R97). -/
def countLost (s : State) : State :=
  setFlag .streamLost (s.withSu { s.su with
    lostCount := satSucc 255 s.su.lostCount
    lostTotal := satSucc 65535 s.su.lostTotal })

/-- The LOST marker is placed when the lost count is above 0 and staging has room (R98). -/
def placeLost (s : State) : State :=
  if 0 < s.su.lostCount ∧ s.su.staging.length < 8 then
    s.withSu { s.su with staging := s.su.staging ++ [.mark .lost s.su.lostCount], lostCount := 0 }
  else s

/-- An entry arrives at SU: it joins staging, or is lost (R96). -/
def arrive (e : Entry) (s : State) : State :=
  if s.su.staging.length < 8 then tryDeposit (s.withSu { s.su with staging := s.su.staging ++ [e] })
  else countLost s

/-- A lost entry handed by LU at an entry to FADE (R97). -/
def arriveLost (s : State) : State := tryDeposit (placeLost (countLost s))

/-! ## The transmit arbiter (R84 to R91) -/

/-- A character operation starts in the sampled format at the sampled rate (R82). -/
def startCharacter (c : Byte) (s : State) : State :=
  s.withLu { s.lu with txOp := some (.character c s.lu.rate s.lu.format s.env.now) }

/-- The arbiter takes SU's flow request (R86), and SU is told (R107). -/
def takeFlow (s : State) : State :=
  match s.su.ownFlow with
  | .stopAsked => startCharacter s.cbm.settings.xoffChar (s.withSu { s.su with ownFlow := .stopped })
  | .goAsked => startCharacter s.cbm.settings.xonChar (s.withSu { s.su with ownFlow := .flowing })
  | _ => s

/-- SU holds a request not yet taken (R104). -/
def flowAsked (s : State) : Bool := s.su.ownFlow == .stopAsked || s.su.ownFlow == .goAsked

/-- The head of the key-transmit FIFO starts on the line (R90), with its echo entry in HALF (R91). -/
def takeKeyChar (c : Byte) (rest : List Byte) (s : State) : State :=
  let s1 := startCharacter c (s.withLu { s.lu with keyTx := rest })
  if s.cbm.settings.echoHalf then arrive (.echo c) s1 else s1

/-- The host transmit ring is eligible (R85). -/
def ringEligible (s : State) : Bool :=
  s.ringsSet && s.cbm.txProd != s.lu.txCons && !s.lu.remoteHold && s.lu.ringFetch == .none

/-- The arbiter's choice: the first eligible source (R85). -/
def chooseSource (s : State) : State :=
  if flowAsked s then takeFlow s
  else if s.lu.breakReq then s.withLu { s.lu with txOp := some (.breakSpace s.env.now) }
  else match s.lu.keyTx, s.lu.remoteHold with
    | c :: rest, false => takeKeyChar c rest s
    | _, _ => if ringEligible s then s.withLu { s.lu with ringFetch := .readWait } else s

/-- The line is ONLINE, no operation is under way, and no ring read holds the transmitter (R84). -/
def atBoundary (s : State) : Bool :=
  s.lu.lineState == .online && s.lu.txOp.isNone && s.lu.ringFetch != .readWait

/-- A character boundary, where there can be one (R84). -/
def boundary (s : State) : State := if atBoundary s then chooseSource s else s

/-! ## The part's own flow (5.4) -/

/-- free (R104). -/
def freeSlots (s : State) : Nat :=
  let cap := s.geo Geometry.rxCap
  (cap - 1) - ringDiff cap s.su.producer s.su.consumerCopy

/-- XON_e and XOFF_e (R104). -/
def xonLevel (s : State) : Nat := min s.cbm.settings.xonFree (s.geo Geometry.rxCap - 1)
def xoffLevel (s : State) : Nat := min s.cbm.settings.xoffFree (xonLevel s - 2)

/-- The own-flow state after an evaluation while ONLINE (R106 with TX_FLOW on, R108 with it off). -/
def ownFlowNext (s : State) : OwnFlow :=
  if s.cbm.settings.txFlow then
    match s.su.ownFlow with
    | .flowing => if freeSlots s ≤ xoffLevel s then .stopAsked else .flowing
    | .stopAsked => if xonLevel s ≤ freeSlots s then .flowing else .stopAsked
    | .stopped => if xonLevel s ≤ freeSlots s then .goAsked else .stopped
    | .goAsked => if freeSlots s ≤ xoffLevel s then .stopped else .goAsked
  else
    match s.su.ownFlow with
    | .flowing => .flowing
    | .stopAsked => .flowing
    | .stopped => .goAsked
    | .goAsked => .goAsked

/-- An own-flow evaluation: it acts only while the line is ONLINE (R105), and the raising of a request is a boundary
(R84, R106). -/
def evaluateFlow (s : State) : State :=
  if s.lu.lineState = .online then
    if ownFlowNext s = s.su.ownFlow then s
    else
      let s1 := s.withSu { s.su with ownFlow := ownFlowNext s }
      if flowAsked s1 then boundary s1 else s1
  else s

/-! ## SU's grants (R101) -/

/-- The address of byte `i` of the slot at the stream producer (2.8.2). -/
def streamSlot (s : State) (i : Nat) : Addr := addrOf (s.geo Geometry.rxBase * 256 + 2 * s.su.producer + i)

/-- The RX_PROD write lands (R101). -/
def landRxProd (s : State) : State :=
  let next := ringNext (s.geo Geometry.rxCap) s.su.producer
  let s1 := writeByte (s.blockAddr (PartIndex.offset .rxProd)) (byteOf next) s
  let s2 := s1.withSu { s1.su with producer := next, staging := s1.su.staging.tail, deposit := .none }
  tryDeposit (evaluateFlow (placeLost s2))

/-- A grant to SU (R101). -/
def grantSu (s : State) : State :=
  match s.su.deposit, s.su.staging with
  | .byte0Wait, e :: _ => (writeByte (streamSlot s 0) e.byte0 s).withSu { s.su with deposit := .byte1Wait }
  | .byte1Wait, e :: _ => (writeByte (streamSlot s 1) e.byte1 s).withSu { s.su with deposit := .indexWait }
  | .indexWait, _ => landRxProd s
  | _, _ => s

/-- SU acts on an accepted RX_CONS write (R100, R102). -/
def actOnRxCons (s : State) : State :=
  tryDeposit (evaluateFlow (s.withSu { s.su with consumerCopy := s.cbm.rxCons }))

/-! ## LU's grants (R89) -/

/-- The address of the ring read LU presents (R89). -/
def txSlot (s : State) : Addr := addrOf (s.geo Geometry.txBase * 256 + s.lu.txCons)

/-- A grant to LU (R89). -/
def grantLu (s : State) : State :=
  match s.lu.ringFetch with
  | .readWait =>
    if s.lu.lineState = .online ∧ s.cbm.txProd ≠ s.lu.txCons then
      startCharacter (s.byteAt (txSlot s)) (s.withLu { s.lu with ringFetch := .indexWait })
    else boundary (s.withLu { s.lu with ringFetch := .none })
  | .indexWait =>
    let next := ringNext (s.geo Geometry.txCap) s.lu.txCons
    boundary ((writeByte (s.blockAddr (PartIndex.offset .txCons)) (byteOf next) s).withLu
      { s.lu with txCons := next, ringFetch := .none })
  | .none => s

end Sys2Proof.Machine
end

