-- ==== Sys2Proof/Machine/Line.lean ====
section
/-! DEFINITION. The line unit: line states (chapter 3), receiver (sections 4.1, 4.2), remote flow (4.3), breaks (4.4.1). -/

namespace Sys2Proof.Machine

open Sys2Proof

/-! ## Line quality (3.4) -/

/-- Quiet mode is evaluated against the shadows (R64). -/
def evaluateQuiet (s : State) : State :=
  if s.lu.quiet then
    if s.cbm.settings.quietExit ≤ s.lu.qs then s.withLu { s.lu with quiet := false } else s
  else
    if s.lu.qs < s.cbm.settings.quietEnter then setFlag .quietSeen (s.withLu { s.lu with quiet := true }) else s

/-- A Qs update (R62): Qs − floor(Qs / 4) + 4 × m, then the quiet mode evaluation. -/
def updateQs (m : Nat) (s : State) : State :=
  evaluateQuiet (s.withLu { s.lu with qs := s.lu.qs - s.lu.qs / 4 + 4 * m })

/-- A mark added to a run (R52, R63). -/
def MarkRun.add (r : MarkRun) (margin : Nat) : MarkRun := ⟨r.count + 1, min r.lowest margin⟩

/-! ## Entry to OFF and to FADE (R56, R60) -/

/-- A break under way is cut; a character completes (R56, R59, R82, R83). -/
def cutBreak (op : Option TxOp) : Option TxOp :=
  match op with
  | some (.breakSpace _) => none
  | some (.breakTail _) => none
  | other => other

/-- Entry to OFF (R60). -/
def enterOff (s : State) : State :=
  (s.withLu { s.lu with
    lineState := .off
    listenTimer := none
    qualifyTimer := none
    lossHold := none
    demod := false
    carrier := false
    receiver := .idle
    idleMark := false
    quiet := false
    remoteHold := false
    holdTimer := none
    breakReq := false
    txRest := .silent
    txOp := cutBreak s.lu.txOp }).withSu { s.su with ownFlow := .flowing }

/-- The break request after an entry to FADE: a break being sent clears it, one pending is kept (R56, R87). -/
def breakReqAfterFade (l : LineUnit) : Bool :=
  match l.txOp with
  | some (.breakSpace _) => false
  | _ => l.breakReq

/-- A frame or a break candidate is in progress (R56). -/
def Receiver.inProgress : Receiver → Bool
  | .frame _ => true
  | .candidate _ => true
  | _ => false

/-- Entry to FADE from ONLINE (R56). -/
def enterFade (s : State) : State :=
  let s1 := s.withLu { s.lu with
    lineState := .fade
    lossHold := some ⟨s.env.now, s.cbm.settings.lossHold⟩
    receiver := .idle
    idleMark := false
    idleRun := emptyRun
    txRest := .mark
    breakReq := breakReqAfterFade s.lu
    txOp := cutBreak s.lu.txOp }
  if s.lu.receiver.inProgress then arriveLost s1 else s1

/-! ## Entry to ONLINE (R53) -/

/-- The order of the own-flow evaluation and the first boundary matters (R109): the evaluation would change the own-flow
state, and the arbiter can choose. -/
def orderMatters (s : State) : Bool := atBoundary s && ownFlowNext s != s.su.ownFlow

/-- The evaluation brought by CARRIER_UP and the first boundary, in an order the rules leave open (R109, log 11). -/
def onlineBoundary (s : State) : State :=
  if orderMatters s then
    let s1 := s.withEnv (dropOrder s.env)
    if nextOrder s.env then evaluateFlow (boundary s1) else boundary (evaluateFlow s1)
  else boundary (evaluateFlow s)

/-- LU's own part of the entry to ONLINE (R53, steps 1, 3, 5 and 6; R77). -/
def onlineLine (l : LineUnit) : LineUnit :=
  { l with
    lineState := .online
    qs := 16 * l.integRun.lowest
    listenTimer := none
    lossHold := none
    onlineReached := true
    idleRun := emptyRun
    receiver := .hunt
    idleMark := true
    txRest := .mark }

/-- Entry to ONLINE (R53). -/
def enterOnline (s : State) : State :=
  let arg := if s.lu.onlineReached then 1 else 0
  onlineBoundary (arrive (.mark .carrierUp arg) (evaluateQuiet (s.withLu (onlineLine s.lu))))

/-! ## Carrier events (3.2) -/

/-- A carrier present event (R46, R50, R57). -/
def carrierUp (s : State) : State :=
  let s1 := s.withLu { s.lu with carrier := true }
  match s.lu.lineState with
  | .listen => s1.withLu { s1.lu with lineState := .qualify, qualifyTimer := some s.env.now }
  | .fade => s1.withLu { s1.lu with lineState := .integrate .again, integRun := emptyRun }
  | _ => s1

/-- A carrier absent event (R46, R51, R54, R56, R57). -/
def carrierLost (s : State) : State :=
  let s1 := s.withLu { s.lu with carrier := false }
  match s.lu.lineState with
  | .qualify => s1.withLu { s1.lu with lineState := .listen, qualifyTimer := none }
  | .integrate .first => s1.withLu { s1.lu with
      lineState := .listen
      integRun := emptyRun
      txRest := if s.lu.role = .originate then .silent else .mark }
  | .integrate .again => s1.withLu { s1.lu with
      lineState := .fade
      lossHold := some ⟨s.env.now, s.cbm.settings.lossHold⟩ }
  | .online => enterFade s1
  | _ => s1

/-! ## The receiver (4.1, 4.2) -/

/-- The data decisions of a completed frame (R71). -/
def dataBitsOf (f : LineFormat) (bits : List Bool) : List Bool := bits.take f.dataBits

/-- The stop decisions of a completed frame (R71). -/
def stopBitsOf (f : LineFormat) (bits : List Bool) : List Bool :=
  bits.drop (f.dataBits + if f.hasParity then 1 else 0)

/-- The parity decision of a completed frame, where the format has one (R71). -/
def parityBitOf (f : LineFormat) (bits : List Bool) : Bool := bits.getD f.dataBits false

/-- The character of data decisions, least significant first; mark is 1 (R71). -/
def charValue : List Bool → Nat
  | [] => 0
  | b :: rest => bitVal b 1 + 2 * charValue rest

/-- Parity error (R72). -/
def parityError (f : LineFormat) (bits : List Bool) : Bool :=
  match requiredParity f (dataBitsOf f bits) with
  | none => false
  | some p => parityBitOf f bits != p

/-- Framing error: any stop decision is space (R72). -/
def framingError (f : LineFormat) (bits : List Bool) : Bool := (stopBitsOf f bits).any (fun b => !b)

/-- How a completed frame without errors is recognised (R78, R79): nothing, XOFF or XON; with equal shadows XON while
remote hold is on and XOFF while it is off. -/
inductive FlowChar where
  | none | xoff | xon
  deriving DecidableEq, Repr

/-- Flow recognition (R78). -/
def flowChar (t : Settings) (remoteHold : Bool) (c : Byte) : FlowChar :=
  if !t.rxFlow then .none
  else match c == t.xoffChar, c == t.xonChar with
    | true, true => if remoteHold then .xon else .xoff
    | true, false => .xoff
    | false, true => .xon
    | false, false => .none

/-- A consumed XOFF: remote hold on, the timer from 0 (R79). -/
def consumeXoff (s : State) : State := s.withLu { s.lu with remoteHold := true, holdTimer := some s.env.now }

/-- A consumed XON: remote hold off, the timer stopped; its turning off is a boundary (R79, R84). -/
def consumeXon (s : State) : State :=
  if s.lu.remoteHold then boundary (s.withLu { s.lu with remoteHold := false, holdTimer := none }) else s

/-- A completed frame that is no break candidate: flow recognition, or a LINE entry (R74, steps 3 and 4). -/
def deliverFrame (c : Byte) (parity framing weak : Bool) (s : State) : State :=
  match if parity || framing then FlowChar.none else flowChar s.cbm.settings s.lu.remoteHold c with
  | .xoff => consumeXoff s
  | .xon => consumeXon s
  | .none => arrive (.line c parity framing weak) s

/-- The completion of a frame with its record at the last stop-bit sample (R72 to R74). A step that the Qs update lets PD begin
comes after the whole of it (log 33, `settle`). -/
def completeFrame (r : FrameRecord) (s : State) : State :=
  let f := s.lu.format
  let s1 := updateQs r.lowest s
  let data := dataBitsOf f r.bits
  let parity := parityError f r.bits
  let framing := framingError f r.bits
  let weak := decide (r.lowest < s.cbm.settings.weakMargin) || r.overlap
  if data.all (fun b => !b) && framing then
    s1.withLu { s1.lu with receiver := .candidate ⟨parity, framing, weak, f.length⟩ }
  else
    deliverFrame (byteOf (charValue data)) parity framing weak (s1.withLu { s1.lu with receiver := .hunt })

/-- A mark decision outside a frame: the idle-mark indicator is set (R77) and the idle run counts it; the tenth updates Qs
and empties the run (R63). -/
def idleMarkBit (margin : Nat) (s : State) : State :=
  let run := s.lu.idleRun.add margin
  let s1 := s.withLu { s.lu with idleMark := true, idleRun := run }
  if run.count = 10 then updateQs run.lowest (s1.withLu { s1.lu with idleRun := emptyRun }) else s1

/-- A space decision outside a frame: the indicator clears and the run empties (R63, R77). -/
def idleSpaceBit (s : State) : State := s.withLu { s.lu with idleMark := false, idleRun := emptyRun }

/-- A bit decision in HUNT (R63, R77). -/
def huntBit (d : Decision) (margin : Nat) (s : State) : State :=
  match d with
  | .mark => idleMarkBit margin s
  | .space => idleSpaceBit s

/-- The check of a start bit in VERIFY (R70): space validates the start; mark is a false start, which empties the idle run
before its own mark counts (R63, log 16). -/
def verifyBit (d : Decision) (margin : Nat) (s : State) : State :=
  match d with
  | .space => s.withLu { s.lu with
      receiver := .frame ⟨[], 15, s.pd.stepState == .stepping⟩
      idleRun := emptyRun }
  | .mark => idleMarkBit margin (s.withLu { s.lu with receiver := .hunt, idleRun := emptyRun })

/-- A bit decision in FRAME (R71): recorded, and at decision N the frame completes. -/
def frameBit (r : FrameRecord) (d : Decision) (margin : Nat) (s : State) : State :=
  let r1 : FrameRecord := ⟨r.bits ++ [d == .mark], min r.lowest margin, r.overlap⟩
  if s.lu.format.length ≤ r1.bits.length + 1 then completeFrame r1 s
  else s.withLu { s.lu with receiver := .frame r1 }

/-- A bit decision in CANDIDATE (R75). -/
def candidateBit (c : Candidate) (d : Decision) (margin : Nat) (s : State) : State :=
  match d with
  | .mark =>
    arrive (.line 0 c.parity c.framing c.weak) (idleMarkBit margin (s.withLu { s.lu with receiver := .hunt }))
  | .space =>
    let s1 := idleSpaceBit s
    if 2 * s.lu.format.length ≤ c.count + 1 then
      arrive (.mark .breakIn 0) (setFlag .breakIn (s1.withLu { s1.lu with receiver := .brk }))
    else s1.withLu { s1.lu with receiver := .candidate { c with count := c.count + 1 } }

/-- A bit decision in BREAK (R76). -/
def breakBit (d : Decision) (margin : Nat) (s : State) : State :=
  match d with
  | .mark => idleMarkBit margin (s.withLu { s.lu with receiver := .hunt })
  | .space => idleSpaceBit s

/-- A bit decision of the receiver while ONLINE (R69 to R77). -/
def receiverBit (d : Decision) (margin : Nat) (s : State) : State :=
  match s.lu.receiver with
  | .idle => s
  | .hunt => huntBit d margin s
  | .verify => verifyBit d margin s
  | .frame r => frameBit r d margin s
  | .candidate c => candidateBit c d margin s
  | .brk => breakBit d margin s

/-- A bit decision in INTEGRATE (R52): the tenth consecutive mark enters ONLINE. -/
def integrationBit (d : Decision) (margin : Nat) (s : State) : State :=
  match d with
  | .space => s.withLu { s.lu with integRun := emptyRun }
  | .mark =>
    let s1 := s.withLu { s.lu with integRun := s.lu.integRun.add margin }
    if 10 ≤ s1.lu.integRun.count then enterOnline s1 else s1

/-- The demodulator's decision, from the stronger tone and its margin: a tie, margin 0, is decided as mark (R45). -/
def decisionOf (stronger : Decision) (margin : Nat) : Decision := if margin = 0 then .mark else stronger

/-- A bit decision is handed to its users (R45); a stopped demodulator gives none. -/
def bitDecided (d : Decision) (margin : Nat) (s : State) : State :=
  if s.lu.demod then
    match s.lu.lineState with
    | .integrate _ => integrationBit d margin s
    | .online => receiverBit d margin s
    | _ => s
  else s

/-- A start edge in HUNT (R70, R77). -/
def startEdgeSeen (s : State) : State :=
  if s.lu.demod = true ∧ s.lu.lineState = .online ∧ s.lu.receiver = .hunt then
    s.withLu { s.lu with receiver := .verify, idleMark := false }
  else s

/-! ## The hold timer (R80) -/

/-- The hold timer expires (R80); remote hold turning off is a boundary (R84). That the marker HOLD_EXPIRED stands in the
stream before an ECHO entry that the boundary makes in the same event is the model's choice (log 31: R80, R84 and R91 give no
order). -/
def expireHold (s : State) : State :=
  boundary (arrive (.mark .holdExpired 0)
    (setFlag .holdExpired (s.withLu { s.lu with remoteHold := false, holdTimer := none })))

/-- The running time has reached the HOLD_LIMIT shadow, which 0 keeps from expiring (R79, R80). -/
def holdRunOut (s : State) : Bool :=
  match s.lu.holdTimer with
  | none => false
  | some start => s.cbm.settings.holdLimit != 0 && decide (start + s.cbm.settings.holdLimit * 1000000 ≤ s.env.now)

/-! ## Break out (R87, R88) -/

/-- A break in BREAK_SPACE. -/
def inBreakSpace (l : LineUnit) : Bool :=
  match l.txOp with
  | some (.breakSpace _) => true
  | _ => false

/-- A break request while ONLINE: it becomes pending, or merges (R87). -/
def requestBreak (s : State) : State :=
  if s.lu.breakReq || inBreakSpace s.lu then s else boundary (s.withLu { s.lu with breakReq := true })

/-- KS's break request: taken only while the line is ONLINE (R88). -/
def keyBreak (s : State) : State := if s.lu.lineState = .online then requestBreak s else s

/-- A key character joins the key-transmit FIFO, or is dropped with KEY_TX_LOST (R90); one entering an empty FIFO is a
boundary (R84). -/
def enqueueKey (c : Byte) (s : State) : State :=
  if s.lu.keyTx.length < 16 then
    let s1 := s.withLu { s.lu with keyTx := s.lu.keyTx ++ [c] }
    if s.lu.keyTx.isEmpty then boundary s1 else s1
  else setFlag .keyTxLost s

end Sys2Proof.Machine
end

