-- ==== Sys2Proof/Machine/Keys.lean ====
section
/-! DEFINITION. The key scanner (chapter 6): scan, admission, events, repeat, lookup and deposit, direct actions, the wake
scan, and the end of standby (R41). -/

namespace Sys2Proof.Machine

open Sys2Proof

/-! ## Positions (6.1) -/

/-- The key codes, 0..79 (R112). -/
def keyCodes : List Nat := List.range 80

/-- The code of a row and a column (R112). -/
def keyCode (row column : Nat) : Nat := row * 10 + column

/-- The modifiers (R112). -/
def shiftCode : Nat := 78
def ctrlCode : Nat := 79
def isModifier (code : Nat) : Bool := code == shiftCode || code == ctrlCode

/-- The fixed value of a modifier's events (R119). -/
def modifierValue (code : Nat) : Byte := if code = shiftCode then 0xF0 else 0xF1

/-- The record of a position. -/
def recordAt (s : State) (code : Nat) : KeyRecord := s.ks.records.getD code clearRecord

/-- One record replaced. -/
def setRecord (code : Nat) (f : KeyRecord → KeyRecord) (s : State) : State :=
  s.withKs { s.ks with records := s.ks.records.set code (f (recordAt s code)) }

/-- The class of a position is given (R115 to R117). -/
def setClass (code : Nat) (c : KeyClass) (s : State) : State := setRecord code (fun r => { r with cls := c }) s

/-- The press state of a position is given (R120, R124). -/
def setPress (code : Nat) (p : PressState) (s : State) : State := setRecord code (fun r => { r with press := p }) s

/-- Held: DOWN, OPENING1 or OPENING2 (R112). -/
def Debounce.held : Debounce → Bool
  | .down | .opening1 | .opening2 => true
  | _ => false

/-- The debounce table (R113). -/
def Debounce.next : Debounce → Bool → Debounce
  | .opened, true => .closing1
  | .closing1, true => .closing2
  | .closing2, true => .down
  | .down, true => .down
  | .opening1, true => .down
  | .opening2, true => .down
  | .down, false => .opening1
  | .opening1, false => .opening2
  | _, false => .opened

/-- Whether a position reads closed in a pass. -/
def readsClosed (closed : BitVec 80) (code : Nat) : Bool := closed.getLsbD code

/-- The positions that become OPEN by a release in a pass, in ascending code order (R113, R114). -/
def newReleases (records : List KeyRecord) (closed : BitVec 80) : List Nat :=
  keyCodes.filter (fun c => (records.getD c clearRecord).debounce == .opening2 && !readsClosed closed c)

/-- The positions that become DOWN by a press in a pass, in ascending code order (R113, R114). -/
def newPresses (records : List KeyRecord) (closed : BitVec 80) : List Nat :=
  keyCodes.filter (fun c => (records.getD c clearRecord).debounce == .closing2 && readsClosed closed c)

/-- Every record moved by one pass (R113). -/
def moveRecords (records : List KeyRecord) (closed : BitVec 80) : List KeyRecord :=
  List.zipWith (fun r c => { r with debounce := r.debounce.next (readsClosed closed c) }) records keyCodes

/-- Held for the phantom test: a press of this pass not yet handled is not (R114, R115, log 17). -/
def countsHeld (s : State) (later : List Nat) (code : Nat) : Bool :=
  (recordAt s code).debounce.held && !later.contains code

/-- The phantom test (R115): three further corners of a rectangle are held. -/
def isPhantom (s : State) (later : List Nat) (code : Nat) : Bool :=
  let row := code / 10
  let column := code % 10
  (List.range 8).any (fun r => r != row && countsHeld s later (keyCode r column)
    && (List.range 10).any (fun c => c != column && countsHeld s later (keyCode row c)
      && countsHeld s later (keyCode r c)))

/-! ## Direct actions (6.7) -/

/-- A character KS hands on (R128). -/
def handCharacter (v : Byte) (s : State) : State :=
  if s.cbm.settings.localCopy = true ∧ s.lu.lineState = .off then arrive (.echo v) s else enqueueKey v s

/-- The action of a mapped value in DIRECT mode (R127). -/
def directAction (v : Byte) (s : State) : State :=
  if v.toNat ≤ 0x7F then handCharacter v s
  else if v = 0x80 then keyBreak s
  else if v = 0x81 then toggleHold s
  else if v = 0x82 then localFeed s
  else s

/-- The kinds that are acted on (R127). -/
def KeyKind.acts : KeyKind → Bool
  | .press | .repeated => true
  | _ => false

/-- The direct action of an event whose value has been looked up (R127). -/
def actOnEvent (e : KeyEvent) (v : Byte) (s : State) : State :=
  if s.cbm.settings.direct && e.kind.acts && !isModifier e.code then directAction v s else s

/-! ## Processing (6.6) -/

/-- The key ring is full (R123). -/
def keyFull (s : State) : Bool := ringNext (s.geo Geometry.keyCap) s.ks.producer == s.ks.consumerCopy

/-- The head of the key FIFO takes its mapped value, and its deposit begins (R124, R125). -/
def beginDeposit (v : Byte) (s : State) : State :=
  match s.ks.fifo with
  | [] => s
  | e :: rest => s.withKs { s.ks with fifo := { e with mapped := some v } :: rest, proc := .byteWait 0 }

/-- Processing of the head begins with the step that finds its mapped value (R124). -/
def beginProcessing (s : State) : State :=
  match s.ks.fifo with
  | [] => s
  | e :: _ =>
    match e.source with
    | .lookup => s.withKs { s.ks with proc := .lookupWait }
    | .fromPress => beginDeposit (recordAt s e.code).value s
    | .fixed v => beginDeposit v s

/-- Processing begins once all its conditions hold together (R123). -/
def tryProcess (s : State) : State :=
  if s.ringsSet && !s.ks.fifo.isEmpty && s.ks.proc == .none && !keyFull s then beginProcessing s else s

/-- A PRESS or WAKE_PRESS of a code (R124). -/
def KeyEvent.pressesCode (e : KeyEvent) (code : Nat) : Bool :=
  e.code == code && (e.kind == .press || e.kind == .wakePress)

/-- The held-key table with the value of one code known (R124). -/
def knowValue (held : List HeldKey) (code : Nat) (v : Byte) : List HeldKey :=
  held.map (fun h => if h.code = code then { h with value := some v } else h)

/-- A looked-up PRESS or WAKE_PRESS leaves its value with its key (R124). -/
def recordPress (e : KeyEvent) (later : List KeyEvent) (v : Byte) (s : State) : State :=
  let s1 := setRecord e.code (fun r => { r with value := v }) s
  if (recordAt s e.code).press = .pending ∧ later.any (fun l => l.pressesCode e.code) = false then
    let s2 := setPress e.code .known s1
    s2.withKs { s2.ks with held := knowValue s2.ks.held e.code v }
  else s1

/-- The address of the keymap byte of an event (R124). -/
def keymapSlot (s : State) (e : KeyEvent) : Addr :=
  addrOf (s.geo Geometry.keymapBase * 256 + 80 * e.shift + e.code)

/-- The keymap read is granted (R124, R127). -/
def landKeymap (s : State) : State :=
  match s.ks.fifo with
  | [] => s
  | e :: later =>
    let v := s.byteAt (keymapSlot s e)
    let s1 := if e.pressesCode e.code then recordPress e later v s else s
    beginDeposit v (actOnEvent e v s1)

/-- The address of byte `i` of the slot at the key producer (2.8.3). -/
def keySlot (s : State) (i : Nat) : Addr := addrOf (s.geo Geometry.keyBase * 256 + 4 * s.ks.producer + i)

/-- An event byte is granted (R125). -/
def landKeyByte (i : Nat) (s : State) : State :=
  match s.ks.fifo with
  | [] => s
  | e :: _ => (writeByte (keySlot s i) (e.byte i) s).withKs
      { s.ks with proc := if i < 3 then .byteWait (i + 1) else .indexWait }

/-- The KEY_PROD write is granted (R125). -/
def landKeyProd (s : State) : State :=
  let next := ringNext (s.geo Geometry.keyCap) s.ks.producer
  let s1 := writeByte (s.blockAddr (PartIndex.offset .keyProd)) (byteOf next) s
  tryProcess (s1.withKs { s1.ks with producer := next, fifo := s1.ks.fifo.tail, proc := .none })

/-- A grant to KS (R124, R125). -/
def grantKs (s : State) : State :=
  match s.ks.proc with
  | .none => s
  | .lookupWait => landKeymap s
  | .byteWait i => landKeyByte i s
  | .indexWait => landKeyProd s

/-- KS acts on the KEY_CONS shadow (R123, R126). -/
def actOnKeyCons (s : State) : State := tryProcess (s.withKs { s.ks with consumerCopy := s.cbm.keyCons })

/-! ## Events (6.4) -/

/-- The shift state (R117). -/
def shiftState (s : State) : Nat := bitVal s.ks.shiftDown 1 + bitVal s.ks.ctrlDown 2

/-- A press of a non-modifier changes its press state at its offer (R120). -/
def markPress (e : KeyEvent) (p : PressState) (s : State) : State :=
  if e.pressesCode e.code && !isModifier e.code then setPress e.code p s else s

/-- An event is offered to the key FIFO (R120); one that joins an empty FIFO may begin its processing (R123). -/
def offer (e : KeyEvent) (s : State) : State :=
  if s.ks.fifo.length < 8 then
    let s1 := s.withKs { s.ks with
      fifo := s.ks.fifo ++ [{ e with lostBefore := s.ks.lostCount }]
      lostCount := 0 }
    tryProcess (markPress e .pending s1)
  else
    let s1 := setFlag .keyLost (s.withKs { s.ks with lostCount := satSucc 255 s.ks.lostCount })
    markPress e .lost s1

/-- The source of an event (R119). -/
def sourceOf (s : State) (code : Nat) (kind : KeyKind) : ValueSource :=
  if isModifier code then .fixed (modifierValue code)
  else match kind with
    | .release => match (recordAt s code).press with
      | .lost => .fixed 0xFF
      | _ => .fromPress
    | _ => .lookup

/-- KS makes an event under the modifier state and offers it (R119). -/
def makeEvent (code : Nat) (kind : KeyKind) (s : State) : State :=
  offer ⟨code, kind, shiftState s, sourceOf s code kind, none, 0⟩ s

/-- A modifier is marked down or up (R117). -/
def markModifier (code : Nat) (isDown : Bool) (s : State) : State :=
  if code = shiftCode then s.withKs { s.ks with shiftDown := isDown } else s.withKs { s.ks with ctrlDown := isDown }

/-! ## Admission and release (6.3) -/

/-- The repeat timer starts for an admitted key, with the settings sampled (R121). -/
def startRepeat (code : Nat) (s : State) : State :=
  s.withKs { s.ks with
    repDelay := s.cbm.settings.repeatDelay
    repInterval := s.cbm.settings.repeatInterval
    rep := some ⟨code, s.env.now, s.cbm.settings.repeatDelay⟩ }

/-- A position that became DOWN (R115 to R117), with the presses of its pass still to handle. -/
def admitKey (later : List Nat) (code : Nat) (s : State) : State :=
  if isPhantom s later code then setClass code .suppressed s
  else if isModifier code then makeEvent code .press (markModifier code true (setClass code .admitted s))
  else if 4 ≤ s.ks.held.length then setClass code .suppressed s
  else
    let s1 := setClass code .admitted s
    makeEvent code .press (startRepeat code (s1.withKs { s1.ks with held := s1.ks.held ++ [⟨code, none⟩] }))

/-- The repeat timer stops if it serves a code (R121). -/
def stopRepeat (rep : Option RepeatTimer) (code : Nat) : Option RepeatTimer :=
  match rep with
  | some t => if t.code = code then none else some t
  | none => none

/-- A position that became OPEN (R118). -/
def letGo (code : Nat) (s : State) : State :=
  match (recordAt s code).cls with
  | .suppressed => s
  | .admitted =>
    if isModifier code then makeEvent code .release (markModifier code false s)
    else makeEvent code .release (s.withKs { s.ks with
      held := s.ks.held.filter (fun h => h.code != code)
      rep := stopRepeat s.ks.rep code })

/-- The releases of a pass, in order (R114, step 1). -/
def letGoAll : List Nat → State → State
  | [], s => s
  | c :: rest, s => letGoAll rest (letGo c s)

/-- The presses of a pass, in order (R114, step 2). -/
def admitAll : List Nat → State → State
  | [], s => s
  | c :: rest, s => admitAll rest (admitKey rest c s)

/-- A scan pass over the contacts read (R113, R114). -/
def scan (closed : BitVec 80) (s : State) : State :=
  let s1 := s.withKs { s.ks with records := moveRecords s.ks.records closed, lastPass := s.env.now }
  admitAll (newPresses s.ks.records closed) (letGoAll (newReleases s.ks.records closed) s1)

/-! ## Auto-repeat (6.5) -/

/-- The values that repeat (R122). -/
def repeats (v : Byte) : Bool := v.toNat ≤ 0x7F || v == 0x82

/-- The timer restarts toward the sampled interval (R121). -/
def restartRepeat (t : RepeatTimer) (s : State) : State :=
  s.withKs { s.ks with rep := some ⟨t.code, s.env.now, s.ks.repInterval⟩ }

/-- The mapped value of a code's entry in the held-key table, absent while it is UNKNOWN (R116). -/
def heldValue (held : List HeldKey) (code : Nat) : Option Byte :=
  (held.find? (fun h => h.code == code)).bind HeldKey.value

/-- The repeat timer expires (R122). -/
def expireRepeat (t : RepeatTimer) (s : State) : State :=
  match (recordAt s t.code).debounce with
  | .down =>
    match heldValue s.ks.held t.code with
    | none => restartRepeat t s
    | some v =>
      if repeats v then makeEvent t.code .repeated (restartRepeat t s) else s.withKs { s.ks with rep := none }
  | _ => restartRepeat t s

/-! ## Standby and the wake scan (6.8) -/

/-- STANDBY at KS (R129). -/
def enterWakeScan (s : State) : State :=
  s.withKs { s.ks with
    scanMode := .wake
    lastPass := s.env.now
    records := s.ks.records.map (fun r => { r with debounce := .opened })
    held := []
    shiftDown := false
    ctrlDown := false
    rep := none }

/-- Standby ends, and KS returns to the matrix scan (R41). The first scan pass falls 5 ms after this moment: after a wake pass
by R130, after a WAKE by the model's choice (log 29: R41 and R130 give no moment there). -/
def leaveStandby (s : State) : State :=
  (s.withCbm { s.cbm with standby := false }).withKs { s.ks with scanMode := .matrix, lastPass := s.env.now }

/-- LU, PS, SU and KS act on the index shadows as they stand (R41). While the rings are UNSET there is no index work
(log 20). -/
def indexWork (s : State) : State :=
  if s.ringsSet then actOnKeyCons (actOnRxCons (endStandbyPrint (boundary s))) else endStandbyPrint s

/-- The end of standby (R41). -/
def endStandby (s : State) : State := indexWork (leaveStandby s)

/-- The records after a wake pass that reads a closure (R130). -/
def wakeRecords (records : List KeyRecord) (closed : BitVec 80) (waking : Nat) : List KeyRecord :=
  List.zipWith
    (fun (r : KeyRecord) c =>
      if c = waking then { r with debounce := .down, cls := .admitted }
      else if readsClosed closed c then { r with debounce := .down, cls := .suppressed }
      else r) records keyCodes

/-- The waking key wakes the part (R130). -/
def wakeBy (waking : Nat) (closed : BitVec 80) (s : State) : State :=
  let s1 := endStandby s
  let s2 := s1.withKs { s1.ks with records := wakeRecords s1.ks.records closed waking }
  let s3 :=
    if isModifier waking then markModifier waking true s2
    else s2.withKs { s2.ks with held := s2.ks.held ++ [⟨waking, none⟩] }
  makeEvent waking .wakePress s3

/-- A wake pass over the contacts read (R130). -/
def wakeScan (closed : BitVec 80) (s : State) : State :=
  let s1 := s.withKs { s.ks with lastPass := s.env.now }
  match keyCodes.find? (readsClosed closed) with
  | none => s1
  | some waking => wakeBy waking closed s1

/-! ## RINGS_RESET at KS (R131) -/

/-- A record whose press has been discarded unprocessed (R131). -/
def losePending (r : KeyRecord) : KeyRecord := if r.press = .pending then { r with press := .lost } else r

/-- RINGS_RESET at KS (R131). -/
def KeyScanner.ringsReset (k : KeyScanner) : KeyScanner :=
  { k with
    records := k.records.map losePending
    fifo := []
    lostCount := 0
    producer := 0
    consumerCopy := 0
    proc := .none }

end Sys2Proof.Machine
end

