-- ==== Sys2Proof/Machine/Commands.lean ====
section
/-! DEFINITION. The control block monitor (chapter 2): snooped writes, the command slot, checks and effects of the commands,
acknowledgement, host indices. -/

namespace Sys2Proof.Machine

open Sys2Proof

/-- The pending record is discarded (R28). -/
def discardPending (s : State) : State := s.withCbm { s.cbm with pendingCmd := none }

/-! ## The guard commands (R15 to R19) -/

/-- The window record GUARD_SET writes (R15). -/
def windowOf (a : Args) : Window := ⟨a.arg3.getLsbD 0, a.arg1.toNat, a.arg2.toNat, a.arg3.getLsbD 1⟩

/-- The areas of the set rings; none while the rings are UNSET (R15). -/
def setRings (s : State) : List Area :=
  match s.cbm.geometry with
  | none => []
  | some g => g.rings

/-- A page the part writes: the control block page, or one holding a byte of a set ring (R12, R15). -/
def partPage (s : State) (page : Nat) : Bool := page == s.blockPage || (setRings s).any (fun r => r.onPage page)

/-- The checks of GUARD_SET, in order (R15). -/
def guardSetCheck (a : Args) (s : State) : Option Result :=
  if s.mp.tight then some .locked
  else if 3 < a.arg0.toNat then some .badArg
  else if 127 < a.arg1.toNat ∨ 127 < a.arg2.toNat then some .badArg
  else if a.arg2.toNat < a.arg1.toNat then some .badArg
  else if pages.any (fun p => (windowOf a).guards p && partPage s p) then some .overlap
  else none

/-- The checks of GUARD_OPEN, in order (R16). -/
def guardOpenCheck (a : Args) (s : State) : Option Result :=
  if s.mp.tight then some .locked else if 127 < a.arg0.toNat then some .badArg else none

/-- The check of GUARD_TIGHT (R18). -/
def guardTightCheck (s : State) : Option Result := if s.mp.tight then some .locked else none

/-- GUARD_SET executes: the record, and its three mirror bytes reported (R15, log 14). -/
def guardSetEffect (a : Args) (s : State) : State :=
  addDirty (fun o => (o - 0x30) / 3 == a.arg0.toNat && 0x30 ≤ o)
    (s.withMp { s.mp with windows := s.mp.windows.set a.arg0.toNat (windowOf a) })

/-- GUARD_OPEN executes, and OPEN_PAGE is reported (R16, log 14). -/
def guardOpenEffect (a : Args) (s : State) : State :=
  addDirty (fun o => o == 0x2A) (s.withMp { s.mp with openPage := some a.arg0.toNat })

/-- GUARD_TIGHT executes (R18). -/
def guardTightEffect (s : State) : State := s.withMp { s.mp with tight := true }

/-- GUARD_CLOSE (R17). -/
def guardCloseEffect (s : State) : State := s.withMp { s.mp with openPage := none }

/-! ## SOFT_RESET (R42) -/

/-- LU after a soft reset (R67, R93). -/
def LineUnit.afterSoftReset (l : LineUnit) : LineUnit :=
  { LineUnit.afterReset with role := l.role, rate := l.rate, format := l.format, listenLimit := l.listenLimit }

/-- CBM after a soft reset, less its answer queue (R42, R43): RESET_SEEN is bit 3 of FLAGS_LO; a presented access is
withdrawn (R13). -/
def ControlBlock.afterSoftReset (c : ControlBlock) : ControlBlock :=
  { c with
    access := none
    pendingCmd := none
    standby := false
    geometry := none
    txProd := 0
    pqProd := 0
    rxCons := 0
    keyCons := 0
    flagsLo := c.flagsLo ||| 0x08 }

/-- SOFT_RESET executes: every block takes its soft-reset values (R13, R21, R42, R67, R93, R111, R132, R156, R167, R185). -/
def softResetEffect (s : State) : State :=
  { s with
    mp := { s.mp with hostRun := 0, passCount := 0 }
    cbm := s.cbm.afterSoftReset
    lu := s.lu.afterSoftReset
    su := { StreamUnit.afterReset with lostTotal := s.su.lostTotal }
    ks := KeyScanner.afterReset s.env.now
    ps := PrintSequencer.afterReset
    sp := StrobePlanner.afterReset
    hm := { s.hm with pacing := none, halt := .none }
    sm := { s.sm with readingTimer := none }
    pd := { PaperDrive.afterReset with position := s.pd.position } }

/-! ## Confirmable commands (R26, R27) -/

/-- The checks of a confirmable command, with its refusal (R26). -/
def confirmableCheck (p : PendingCommand) (s : State) : Option Result :=
  match p.code with
  | .guardSet => guardSetCheck p.args s
  | .guardOpen => guardOpenCheck p.args s
  | .guardTight => guardTightCheck s
  | .softReset => none

/-- A confirmable command executes (R27). -/
def confirmableEffect (p : PendingCommand) (s : State) : State :=
  match p.code with
  | .guardSet => guardSetEffect p.args s
  | .guardOpen => guardOpenEffect p.args s
  | .guardTight => guardTightEffect s
  | .softReset => softResetEffect s

/-- The take of a confirmable command, the earlier record already discarded (R26). -/
def takeConfirmable (code : Confirmable) (s : State) : Result × State :=
  let p : PendingCommand := ⟨code, s.cbm.args⟩
  match confirmableCheck p s with
  | some r => (r, s)
  | none => (.awaitConfirm, s.withCbm { s.cbm with pendingCmd := some p })

/-- CONFIRM (R27). -/
def takeConfirm (s : State) : Result × State :=
  match s.cbm.pendingCmd with
  | none => (.nothingToConfirm, s)
  | some p =>
    let s1 := discardPending s
    match confirmableCheck p s1 with
    | some r => (r, s1)
    | none => (.ok, confirmableEffect p s1)

/-! ## The line commands (R48, R49, R59, R87) -/

/-- A connection starts (R49). -/
def startConnection (role : Role) (s : State) : State :=
  s.withLu { s.lu with
    role := role
    rate := s.cbm.settings.lineRate
    format := s.cbm.settings.lineFormat
    listenLimit := s.cbm.settings.listenLimit
    onlineReached := false
    qs := 0
    quiet := false
    integRun := emptyRun
    idleRun := emptyRun
    demod := true
    carrier := false
    lineState := .listen
    listenTimer := some s.env.now
    txRest := match role with
      | .originate => .silent
      | .answer => .mark }

/-- CONNECT (R48). -/
def takeConnect (s : State) : Result × State :=
  if s.lu.lineState ≠ .off then (.refusedState, s)
  else if s.ringsSet = false then (.ringsUnset, s)
  else if 1 < s.cbm.args.arg0.toNat then (.badArg, s)
  else (.ok, startConnection (if s.cbm.args.arg0 = 0 then .originate else .answer) s)

/-- DISCONNECT's effect (R59). -/
def disconnectEffect (s : State) : State :=
  if s.lu.lineState = .off then s
  else if s.lu.onlineReached then arrive (.mark .carrierDown 1) (setFlag .carrierDown (enterOff s))
  else enterOff s

/-- SEND_BREAK (R87). -/
def takeSendBreak (s : State) : Result × State :=
  if s.lu.lineState = .online then (.ok, requestBreak s) else (.refusedState, s)

/-! ## The print commands (R148, R151) -/

/-- PRINT_HOLD's effect (R148). -/
def printHoldEffect (s : State) : State := if s.ps.holdRequest then s else setHold s

/-- PRINT_RESUME's effect (R148). -/
def printResumeEffect (s : State) : State := if s.ps.holdRequest then clearHold s else s

/-! ## RINGS_RESET (R38, R39) -/

/-- A number of an inclusive range. -/
def inRange (lo hi n : Nat) : Bool := lo ≤ n && n ≤ hi

/-- Every base is a page (R38). -/
def Geometry.basesOk (g : Geometry) : Bool :=
  [g.txBase, g.rxBase, g.keyBase, g.pqBase, g.keymapBase].all (fun b => decide (b.toNat ≤ 127))

/-- Every capacity is in its range (R38). -/
def Geometry.capsOk (g : Geometry) : Bool :=
  inRange 16 255 g.txCap.toNat && inRange 16 255 g.rxCap.toNat && inRange 8 63 g.keyCap.toNat
    && inRange 4 31 g.pqCap.toNat

/-- Two areas of a list share a byte. -/
def anyOverlap : List Area → Bool
  | [] => false
  | a :: rest => rest.any (fun b => a.overlaps b) || anyOverlap rest

/-- Whether the areas of a geometry may be placed (R38): inside RAM, apart, off the control block, no ring in the window
set. -/
def placeable (g : Geometry) (s : State) : Bool :=
  let areas := g.rings ++ [g.keymap]
  areas.all (fun a => decide (a.start + a.length ≤ 0x8000)) && !anyOverlap areas
    && !areas.any (fun a => a.overlaps ⟨s.base, 0x80⟩)
    && !pages.any (fun p => s.mp.windowSet p && g.rings.any (fun r => r.onPage p))

/-- The checks of RINGS_RESET, in order (R38). -/
def ringsResetCheck (s : State) : Option Result :=
  let g := s.cbm.geometryRaw
  if s.lu.lineState ≠ .off ∨ s.ps.engine ≠ .idle ∨ s.ps.cache ≠ .empty then some .refusedState
  else if g.basesOk = false then some .badArg
  else if g.capsOk = false then some .badArg
  else if placeable g s = false then some .overlap
  else none

/-- RINGS_RESET executes (R39, R103, R131, R155). -/
def ringsResetEffect (s : State) : State :=
  { s with
    cbm := { s.cbm with geometry := some s.cbm.geometryRaw, txProd := 0, pqProd := 0, rxCons := 0, keyCons := 0 }
    lu := { s.lu with txCons := 0, keyTx := [], ringFetch := .none }
    su := { StreamUnit.afterReset with lostTotal := s.su.lostTotal }
    ks := s.ks.ringsReset
    ps := { s.ps with
      fetchIndex := 0
      consumer := 0
      localFeeds := 0
      completion := []
      access := none
      woundBack := false } }

/-- RINGS_RESET (R38). -/
def takeRingsReset (s : State) : Result × State :=
  match ringsResetCheck s with
  | some r => (r, s)
  | none => (.ok, ringsResetEffect s)

/-! ## Acknowledgement (R34, R35) -/

/-- The standing conditions of FLAGS_HI: HOT_STOP in bit 6, BATTERY_LOW in bit 7 (R34, R169). -/
def standingHi (s : State) : Byte :=
  byteOf (bitVal (s.ps.engine == .hotHalt && s.hotAt s.cbm.settings.stopTemp) 0x40 + bitVal (supplyBelow 46 s) 0x80)

/-- GUARD_HIT acknowledged: GUARD_HITS returns to 0 (R8). -/
def reportGuardHit (lo : Byte) (s : State) : State :=
  if lo.getLsbD 0 then s.withMp { s.mp with guardHits := 0 } else s

/-- PRINT_DESC_ERROR acknowledged: PS is told (R34, R154). -/
def reportDescError (lo : Byte) (s : State) : State := if lo.getLsbD 7 then acknowledgeDescError s else s

/-- HOT_STOP acknowledged: HM is told whether it re-latched (R34, R178). -/
def reportHotStop (hi : Byte) (again : Bool) (s : State) : State :=
  if hi.getLsbD 6 then acknowledgeHotStop again s else s

/-- Both flag words acknowledged with their masks: the flags clear less those re-latched, then the reports (R34). -/
def acknowledge (lo hi : Byte) (s : State) : State :=
  let stands := standingHi s
  let s1 := s.withCbm { s.cbm with
    flagsLo := acknowledgedWord s.cbm.flagsLo lo 0
    flagsHi := acknowledgedWord s.cbm.flagsHi hi stands }
  reportHotStop hi ((relatched s.cbm.flagsHi hi stands).getLsbD 6) (reportDescError lo (reportGuardHit lo s1))

/-- A write to ACK_LO or ACK_HI (R34). -/
def acknowledgeWord (word : FlagWord) (mask : Byte) (s : State) : State :=
  match word with
  | .lo => acknowledge mask 0 s
  | .hi => acknowledge 0 mask s

/-! ## Standby (R40, R41) -/

/-- The print queue is empty for STANDBY (R40). -/
def queueEmpty (s : State) : Bool := !s.ringsSet || s.ps.fetchIndex == s.cbm.pqProd

/-- STANDBY (R40, R129). -/
def takeStandby (s : State) : Result × State :=
  if s.lu.lineState = .off ∧ s.ps.engine = .idle ∧ queueEmpty s = true then
    (.ok, enterWakeScan (stopReadingTimer (s.withCbm { s.cbm with standby := true })))
  else (.refusedState, s)

/-- WAKE's effect (R41). -/
def wakeEffect (s : State) : State := if s.cbm.standby then endStandby s else s

/-! ## The command slot (R22 to R25) -/

/-- A command outside standby, or WAKE, runs under the rule of its owner (R25, steps 3 to 5). -/
def runCommand (c : Command) (s : State) : Result × State :=
  match c with
  | .confirm => takeConfirm s
  | .confirmable code => takeConfirmable code (discardPending s)
  | .connect => takeConnect (discardPending s)
  | .disconnect => (.ok, disconnectEffect (discardPending s))
  | .sendBreak => takeSendBreak (discardPending s)
  | .printHold => (.ok, printHoldEffect (discardPending s))
  | .printResume => (.ok, printResumeEffect (discardPending s))
  | .printCancel => (.ok, requestCancel (discardPending s))
  | .ringsReset => takeRingsReset (discardPending s)
  | .guardClose => (.ok, guardCloseEffect (discardPending s))
  | .clearAll => (.ok, acknowledge 0xFF 0xFF (discardPending s))
  | .standby => takeStandby (discardPending s)
  | .wake => (.ok, wakeEffect (discardPending s))

/-- The answer to a taken command, and the state its effect leaves (R25). -/
def decideAnswer (code : Byte) (s : State) : Result × State :=
  if s.cbm.standby = true ∧ commandOf code ≠ some .wake then (.inStandby, s)
  else match commandOf code with
    | none => (.unknown, discardPending s)
    | some c => runCommand c s

/-- The write-backs a taken command owes (R24): after RINGS_RESET executes, the four part indices; RESULT; the CMD
clear. -/
def owedFor (code : Byte) (r : Result) : List OwedWrite :=
  (if commandOf code = some .ringsReset ∧ r = .ok then
    [.partIndex .txCons, .partIndex .pqCons, .partIndex .rxProd, .partIndex .keyProd] else [])
    ++ [.result r.code, .clearCmd]

/-- A command is taken (R23): the slot turns BUSY, and the answer is decided and queued in the same grant. -/
def takeCommand (code : Byte) (s : State) : State :=
  let a := decideAnswer code s
  a.2.withCbm { a.2.cbm with slotBusy := true, answers := a.2.cbm.answers ++ owedFor code a.1 }

/-! ## Settings, arguments, geometry, indices (R22, R28, R29, R31, R32) -/

/-- A write of an argument byte: the shadow takes it, and a pending record is discarded (R22, R28). -/
def takeArg (index : Fin 6) (v : Byte) (s : State) : State :=
  s.withCbm { s.cbm with args := s.cbm.args.set index v, pendingCmd := none }

/-- A write of a setting byte (R29); a HOLD_LIMIT at or below the time held expires the hold timer at once (R30, R80). -/
def takeSetting (reg : SettingReg) (v : Byte) (s : State) : State :=
  let raw := s.cbm.raw.set reg v
  let s1 := s.withCbm { s.cbm with raw := raw, settings := s.cbm.settings.set raw reg v }
  if reg = .holdLimit ∧ holdRunOut s1 = true then expireHold s1 else s1

/-- A write of a geometry byte (R22). -/
def takeGeometry (reg : GeometryReg) (v : Byte) (s : State) : State :=
  s.withCbm { s.cbm with geometryRaw := s.cbm.geometryRaw.set reg v }

/-- A producer shadow takes a value. -/
def setProducer (reg : ProducerIndex) (n : Nat) (s : State) : State :=
  match reg with
  | .txProd => s.withCbm { s.cbm with txProd := n }
  | .pqProd => s.withCbm { s.cbm with pqProd := n }

/-- The applied capacity of the ring of a producer index. -/
def producerCapacity (reg : ProducerIndex) (s : State) : Nat :=
  match reg with
  | .txProd => s.geo Geometry.txCap
  | .pqProd => s.geo Geometry.pqCap

/-- LU or PS acts on an accepted producer index (R31, R84, R136). -/
def actOnProducer (reg : ProducerIndex) (s : State) : State :=
  match reg with
  | .txProd => if s.cbm.txProd = s.lu.txCons then s else boundary s
  | .pqProd => actOnPqProd s

/-- A write of a producer index (R31); in standby it is shadowed and not acted on, and while the rings are UNSET it is
shadowed with no check. -/
def takeProducer (reg : ProducerIndex) (v : Byte) (s : State) : State :=
  if s.ringsSet then
    if v.toNat < producerCapacity reg s then
      let s1 := setProducer reg v.toNat s
      if s.cbm.standby then s1 else actOnProducer reg s1
    else setFlag .indexError s
  else setProducer reg v.toNat s

/-- A consumer shadow. -/
def consumerShadow (reg : ConsumerIndex) (s : State) : Nat :=
  match reg with
  | .rxCons => s.cbm.rxCons
  | .keyCons => s.cbm.keyCons

/-- The part's producer of the ring of a consumer index. -/
def partProducer (reg : ConsumerIndex) (s : State) : Nat :=
  match reg with
  | .rxCons => s.su.producer
  | .keyCons => s.ks.producer

/-- The applied capacity of the ring of a consumer index. -/
def consumerCapacity (reg : ConsumerIndex) (s : State) : Nat :=
  match reg with
  | .rxCons => s.geo Geometry.rxCap
  | .keyCons => s.geo Geometry.keyCap

/-- A consumer shadow takes a value. -/
def setConsumer (reg : ConsumerIndex) (n : Nat) (s : State) : State :=
  match reg with
  | .rxCons => s.withCbm { s.cbm with rxCons := n }
  | .keyCons => s.withCbm { s.cbm with keyCons := n }

/-- The value lies on the forward path from the shadow to the part's producer, both ends included (R32). -/
def onForwardPath (reg : ConsumerIndex) (n : Nat) (s : State) : Bool :=
  let cap := consumerCapacity reg s
  decide (n < cap) && decide (ringDiff cap n (consumerShadow reg s) ≤ ringDiff cap (partProducer reg s) (consumerShadow reg s))

/-- SU or KS acts on an accepted consumer index (R32). -/
def actOnConsumer (reg : ConsumerIndex) (s : State) : State :=
  match reg with
  | .rxCons => actOnRxCons s
  | .keyCons => actOnKeyCons s

/-- A write of a consumer index (R32), with the same standby and UNSET cases. -/
def takeConsumer (reg : ConsumerIndex) (v : Byte) (s : State) : State :=
  if s.ringsSet then
    if onForwardPath reg v.toNat s then
      let s1 := setConsumer reg v.toNat s
      if s.cbm.standby then s1 else actOnConsumer reg s1
    else setFlag .indexError s
  else setConsumer reg v.toNat s

/-- The argument index at an offset (2.8.1). -/
def argAt (offset : Nat) : Option (Fin 6) :=
  match offset with
  | 2 => some 0
  | 3 => some 1
  | 4 => some 2
  | 5 => some 3
  | 6 => some 4
  | 7 => some 5
  | _ => none

/-- The settings and the geometry among the snooped writes (R22). -/
def snoopSetup (offset : Nat) (v : Byte) (s : State) : State :=
  match settingAt offset, geometryAt offset with
  | some reg, _ => takeSetting reg v s
  | none, some reg => takeGeometry reg v s
  | none, none => s

/-- CBM acts on a snooped write by its offset (R22). -/
def snoop (offset : Nat) (v : Byte) (s : State) : State :=
  match offset with
  | 0x00 => if v = 0 then s else takeCommand v s
  | 0x10 => takeProducer .txProd v s
  | 0x11 => takeProducer .pqProd v s
  | 0x12 => takeConsumer .rxCons v s
  | 0x13 => takeConsumer .keyCons v s
  | 0x14 => acknowledgeWord .lo v s
  | 0x15 => acknowledgeWord .hi v s
  | n => match argAt n with
    | some i => takeArg i v s
    | none => snoopSetup n v s

end Sys2Proof.Machine
end

