-- ==== Sys2Proof/Machine/MemoryPath.lean ====
section
/-! DEFINITION. The memory path (chapter 1): host grants, drops, and the internal grants of CBM, PS, SU, LU and KS. -/

namespace Sys2Proof.Machine

open Sys2Proof

/-! ## Host grants (R3 to R7) -/

/-- An owned drop (R5). -/
def ownedDrop (s : State) : State := setFlag .ownedHit s

/-- A guarded drop (R7). -/
def guardedDrop (a : Addr) (s : State) : State :=
  setFlag .guardHit (s.withMp { s.mp with
    guardHits := satSucc 255 s.mp.guardHits
    guardFirst := if hasFlag .guardHit s then s.mp.guardFirst else a.zeroExtend 16 })

/-- The four classes of a host write (R4). -/
inductive WriteClass where
  | owned
  | snooped (offset : Nat)
  | guarded
  | plain
  deriving DecidableEq, Repr

/-- A host write is classified by its address (R4). -/
def classify (s : State) (a : Addr) : WriteClass :=
  if s.inBlock a then
    if partOwned s.cbm.slotBusy (a.toNat - s.base) then .owned else .snooped (a.toNat - s.base)
  else if s.mp.guardedSet (pageOf a.toNat) then .guarded
  else .plain

/-- A host write is delivered by its class (R4). -/
def deliverWrite (a : Addr) (v : Byte) (s : State) : State :=
  match classify s a with
  | .owned => ownedDrop s
  | .snooped offset => snoop offset v (writeByte a v s)
  | .guarded => guardedDrop a s
  | .plain => writeByte a v s

/-- A host access is granted (R3, R4). -/
def hostGrant (x : HostAccess) (s : State) : State :=
  let s1 := countHost s
  match x with
  | .read a => s1.withMp { s1.mp with hostData := some (s1.byteAt a) }
  | .write a v => deliverWrite a v s1

/-! ## CBM's grants (R24, R37) -/

/-- The address and the byte of a write-back of the answer queue (R24). -/
def OwedWrite.target : OwedWrite → Nat × Byte
  | .partIndex i => (i.offset, 0)
  | .result v => (resultOffset, v)
  | .clearCmd => (cmdOffset, 0)

/-- The head of the answer queue lands (R24); the slot turns FREE at the CMD clear. -/
def landAnswer (w : OwedWrite) (rest : List OwedWrite) (s : State) : State :=
  let s1 := writeByte (s.blockAddr w.target.1) w.target.2 s
  s1.withCbm { s1.cbm with answers := rest, access := none, slotBusy := if w = .clearCmd then false else s1.cbm.slotBusy }

/-- A status write-back lands with the value current at the grant, and its offset leaves the dirty set (R37). -/
def landStatus (offset : Nat) (s : State) : State :=
  let s1 := writeByte (s.blockAddr offset) (statusByte s offset) s
  s1.withCbm { s1.cbm with dirty := s1.cbm.dirty.filter (fun o => o != offset), access := none }

/-- A grant to CBM (R24, R37). -/
def grantCbm (s : State) : State :=
  match s.cbm.access, s.cbm.answers with
  | some .answer, w :: rest => landAnswer w rest s
  | some (.status offset), _ => landStatus offset s
  | _, _ => s

/-! ## PS's grants (R135 to R137) -/

/-- The address of the result byte of a descriptor (R135). -/
def resultSlot (s : State) (position : Nat) : Addr := addrOf (s.geo Geometry.pqBase * 256 + 8 * position + 7)

/-- A result write lands; the PQ_CONS write of the same record comes next (R135). -/
def landResult (c : Completion) (s : State) : State :=
  (writeByte (resultSlot s c.position) c.result.code s).withPs { s.ps with access := some .indexWrite }

/-- A PQ_CONS write lands (R135). Where the consumer's advance makes Q greater than F (after a PQ_PROD moved back during a
pending cancel), a fetch begins in this event (R136, R140). -/
def landPqCons (c : Completion) (rest : List Completion) (s : State) : State :=
  let next := ringNext (s.geo Geometry.pqCap) c.position
  fetchWork ((writeByte (s.blockAddr (PartIndex.offset .pqCons)) (byteOf next) s).withPs
    { s.ps with consumer := next, completion := rest, access := none })

/-- The cache after the judgement of a whole descriptor (R136, R137). -/
def judgedCache (position : Nat) (bytes : List Byte) : Cache :=
  match judgeDescriptor bytes with
  | none => .bad position
  | some d => match d.kind with
    | .dots => if d.length = 0 then .ready position d blankImage else .loading position d blankImage 0
    | _ => .ready position d blankImage

/-- A descriptor byte is granted (R136). -/
def landDescriptorByte (v : Byte) (s : State) : State :=
  match s.ps.cache with
  | .fetching position bytes =>
    let all := bytes ++ [v]
    if all.length < 8 then s.withPs { s.ps with cache := .fetching position all }
    else cacheChanged (s.withPs { s.ps with cache := judgedCache position all })
  | _ => s

/-- An image byte is granted (R137). -/
def landImageByte (v : Byte) (s : State) : State :=
  match s.ps.cache with
  | .loading position d image k =>
    let placed := image.set ((d.startOffset + k) % 72) v
    if k + 1 < d.length then s.withPs { s.ps with cache := .loading position d placed (k + 1) }
    else cacheChanged (s.withPs { s.ps with cache := .ready position d placed })
  | _ => s

/-- PS has no access presented, until it chooses its next one (R135). -/
def freePs (s : State) : State := s.withPs { s.ps with access := none }

/-- A grant of the result write of the completion list's head (R135). -/
def grantResult (s : State) : State :=
  match s.ps.completion with
  | [] => freePs s
  | c :: _ => landResult c s

/-- A grant of the PQ_CONS write of the completion list's head (R135). -/
def grantPqCons (s : State) : State :=
  match s.ps.completion with
  | [] => freePs s
  | c :: rest => landPqCons c rest s

/-- A grant to PS (R135 to R137); a discarded read changes nothing else (R153). -/
def grantPs (s : State) : State :=
  match s.ps.access with
  | none => s
  | some .resultWrite => grantResult s
  | some .indexWrite => grantPqCons s
  | some (.descriptorRead a discard) =>
    if discard then freePs s else landDescriptorByte (s.byteAt a) (freePs s)
  | some (.imageRead a discard) =>
    if discard then freePs s else landImageByte (s.byteAt a) (freePs s)

/-! ## The slots (R10, R11) -/

/-- The effect of a grant to a requester. -/
def grantEffect (r : Requester) (s : State) : State :=
  match r with
  | .su => grantSu s
  | .lu => grantLu s
  | .ks => grantKs s
  | .ps => grantPs s
  | .cbm => grantCbm s

/-- A slot granted to a requester, as one whole event (R9, R10, R11). -/
def grantTo (r : Requester) (s : State) : State := settle s (grantEffect r (countInternal r s))

/-- A slot that goes to the internal side (R11). -/
def grantInternal (s : State) : State :=
  match pick s with
  | none => s
  | some r => grantTo r s

/-- The slot of a host access goes to the internal side: the host run count is 8 and an internal access waits (R10). -/
def contended (s : State) : Bool := decide (8 ≤ s.mp.hostRun) && internalWaiting s

/-- A host access that is presented and not granted waits, and the wait signal stands (R10, R13). -/
def hostWait (x : HostAccess) (s : State) : State := s.withMp { s.mp with hostWaiting := s.mp.hostWaiting ++ [x] }

/-- A host access is granted, after the slot that goes to the internal side where one does (R10, log 8). -/
def serveWaiting (x : HostAccess) (s : State) : State :=
  let s1 := if contended s then grantInternal s else s
  settle s1 (hostGrant x s1)

/-- A host access is presented and served (R10): at once without a wait, or through a contended slot, waiting (log 8). -/
def hostServe (x : HostAccess) (s : State) : State := serveWaiting x (if contended s then hostWait x s else s)

/-- The host presents an access: while the reset line is held it waits with the wait signal asserted (R13, log 9). -/
def hostPresent (x : HostAccess) (s : State) : Host.Outcome State Fault Refusal :=
  if s.mp.resetHeld then .next (hostWait x s) else .next (hostServe x s)

/-- The host writes a control block byte. -/
def hostOffset (offset : Nat) (v : Byte) (s : State) : Host.Outcome State Fault Refusal :=
  hostPresent (.write (s.blockAddr offset) v) s

/-- A grant command of one requester: it grants the slot when the arbiter chooses that requester and its access is of the
row's kind, and otherwise nothing happens (log 7). -/
def grantWhen (r : Requester) (ready : Bool) (s : State) : Host.Outcome State Fault Refusal :=
  if pick s = some r ∧ ready = true then .next (grantTo r s) else .next s

end Sys2Proof.Machine
end

