-- ==== Sys2Proof/Machine/HostPort.lean ====
section
/-! DEFINITION. The meanings of the host's rows: reads, writes, and one per command code. Each is a host access presented to
the memory path; what it does is the path's (R3 to R7) and the control block monitor's (R22). -/

namespace Sys2Proof.Machine

open Sys2Proof

/-- HOST_READ (R3). -/
def execHostRead (a : Addr) (s : State) : Host.Outcome State Fault Refusal := hostPresent (.read a) s

/-- HOST_WRITE (R4). -/
def execHostWrite (a : Addr) (v : Byte) (s : State) : Host.Outcome State Fault Refusal := hostPresent (.write a v) s

/-- ARG_WRITE (R28). -/
def execArgWrite (index : Fin 6) (v : Byte) (s : State) : Host.Outcome State Fault Refusal :=
  hostOffset (argOffset index) v s

/-- SETTING_WRITE (R29). -/
def execSettingWrite (reg : SettingReg) (v : Byte) (s : State) : Host.Outcome State Fault Refusal :=
  hostOffset (SettingReg.offset reg) v s

/-- GEOMETRY_WRITE (R22). -/
def execGeometryWrite (reg : GeometryReg) (v : Byte) (s : State) : Host.Outcome State Fault Refusal :=
  hostOffset (GeometryReg.offset reg) v s

/-- PRODUCER_INDEX_WRITE (R31). -/
def execProducerIndexWrite (reg : ProducerIndex) (v : Byte) (s : State) : Host.Outcome State Fault Refusal :=
  hostOffset (ProducerIndex.offset reg) v s

/-- CONSUMER_INDEX_WRITE (R32). -/
def execConsumerIndexWrite (reg : ConsumerIndex) (v : Byte) (s : State) : Host.Outcome State Fault Refusal :=
  hostOffset (ConsumerIndex.offset reg) v s

/-- ACKNOWLEDGE (R34). -/
def execAcknowledge (word : FlagWord) (mask : Byte) (s : State) : Host.Outcome State Fault Refusal :=
  hostOffset (FlagWord.ackOffset word) mask s

/-- The host writes a command code to CMD (R23). -/
def hostCommand (code : Byte) (s : State) : Host.Outcome State Fault Refusal := hostOffset cmdOffset code s

/-- UNKNOWN (R25). -/
def execUnknown (code : Byte) (s : State) : Host.Outcome State Fault Refusal := hostCommand code s

/-- CONNECT (R48, R49). -/
def execConnect (s : State) : Host.Outcome State Fault Refusal := hostCommand 0x01 s

/-- DISCONNECT (R59). -/
def execDisconnect (s : State) : Host.Outcome State Fault Refusal := hostCommand 0x02 s

/-- SEND_BREAK (R87). -/
def execSendBreak (s : State) : Host.Outcome State Fault Refusal := hostCommand 0x03 s

/-- PRINT_HOLD (R148). -/
def execPrintHold (s : State) : Host.Outcome State Fault Refusal := hostCommand 0x10 s

/-- PRINT_RESUME (R148, R150). -/
def execPrintResume (s : State) : Host.Outcome State Fault Refusal := hostCommand 0x11 s

/-- PRINT_CANCEL (R151). -/
def execPrintCancel (s : State) : Host.Outcome State Fault Refusal := hostCommand 0x12 s

/-- RINGS_RESET (R38, R39). -/
def execRingsReset (s : State) : Host.Outcome State Fault Refusal := hostCommand 0x20 s

/-- GUARD_SET (R15). -/
def execGuardSet (s : State) : Host.Outcome State Fault Refusal := hostCommand 0x30 s

/-- GUARD_OPEN (R16). -/
def execGuardOpen (s : State) : Host.Outcome State Fault Refusal := hostCommand 0x31 s

/-- GUARD_CLOSE (R17). -/
def execGuardClose (s : State) : Host.Outcome State Fault Refusal := hostCommand 0x32 s

/-- GUARD_TIGHT (R18). -/
def execGuardTight (s : State) : Host.Outcome State Fault Refusal := hostCommand 0x33 s

/-- CONFIRM (R27). -/
def execConfirm (s : State) : Host.Outcome State Fault Refusal := hostCommand 0x3F s

/-- CLEAR_ALL (R35). -/
def execClearAll (s : State) : Host.Outcome State Fault Refusal := hostCommand 0x40 s

/-- STANDBY (R40). -/
def execStandby (s : State) : Host.Outcome State Fault Refusal := hostCommand 0x50 s

/-- WAKE (R41). -/
def execWake (s : State) : Host.Outcome State Fault Refusal := hostCommand 0x51 s

/-- SOFT_RESET (R42). -/
def execSoftReset (s : State) : Host.Outcome State Fault Refusal := hostCommand 0x5F s

end Sys2Proof.Machine
end

