-- ==== Sys2Proof/Machine/LineEvents.lean ====
section
/-! DEFINITION. The meanings of the rows of the line unit: carrier events, line timers, bit decisions, transmit operations. An
event the line has no entry for leaves it as it was (R47, log 6). -/

namespace Sys2Proof.Machine

open Sys2Proof

/-- An event that happens only under a condition; without it nothing happens (R47, log 6). -/
def eventWhen (ready : Bool) (effect : State → State) (s : State) : Host.Outcome State Fault Refusal :=
  if ready then event effect s else .next s

/-- The expiry of a timer at its due moment; a stopped timer has none (log 5, log 6). -/
def expiry (timer : Timer) (duration : Nat) (effect : State → State) (s : State) : Host.Outcome State Fault Refusal :=
  match timer with
  | none => .next s
  | some start => event (fun t => effect (clockTo (start + duration) t)) s

/-! ## Carrier and line timers -/

/-- CARRIER_PRESENT (R46). -/
def execCarrierPresent (s : State) : Host.Outcome State Fault Refusal :=
  eventWhen (s.lu.demod && !s.lu.carrier) carrierUp s

/-- CARRIER_ABSENT (R46). -/
def execCarrierAbsent (s : State) : Host.Outcome State Fault Refusal :=
  eventWhen (s.lu.demod && s.lu.carrier) carrierLost s

/-- The qualify timer runs out (R51). -/
def qualified (s : State) : State :=
  s.withLu { s.lu with
    lineState := .integrate .first
    integRun := emptyRun
    qualifyTimer := none
    txRest := .mark }

/-- QUALIFY_EXPIRY (R51). -/
def execQualifyExpiry (s : State) : Host.Outcome State Fault Refusal := expiry s.lu.qualifyTimer 200000 qualified s

/-- The listen timer runs out (R55). -/
def listenRunOut (s : State) : State := setFlag .connectTimeout (enterOff s)

/-- LISTEN_EXPIRY (R55). -/
def execListenExpiry (s : State) : Host.Outcome State Fault Refusal :=
  expiry s.lu.listenTimer (s.lu.listenLimit * 1000000) listenRunOut s

/-- The loss-hold timer runs out (R58). -/
def lossHoldRunOut (s : State) : State := arrive (.mark .carrierDown 0) (setFlag .carrierDown (enterOff s))

/-- LOSS_HOLD_EXPIRY (R58). -/
def execLossHoldExpiry (s : State) : Host.Outcome State Fault Refusal :=
  match s.lu.lossHold with
  | none => .next s
  | some t => expiry (some t.start) (t.limit * 100000) lossHoldRunOut s

/-! ## Bit decisions -/

/-- BIT_DECISION (R45). -/
def execBitDecision (d : Decision) (margin : Fin 16) (s : State) : Host.Outcome State Fault Refusal :=
  eventWhen s.lu.demod (bitDecided (decisionOf d margin.val) margin.val) s

/-- The tenth decision of an integration is next (R52). -/
def tenthIsNext (l : LineUnit) : Bool :=
  match l.lineState with
  | .integrate _ => l.demod && l.integRun.count == 9
  | _ => false

/-- INTEGRATION_COMPLETE (R53). -/
def execIntegrationComplete (margin : Fin 16) (s : State) : Host.Outcome State Fault Refusal :=
  eventWhen (tenthIsNext s.lu) (bitDecided .mark margin.val) s

/-- The receiver takes decisions: the demodulator runs and the line is ONLINE (R45). -/
def receiving (l : LineUnit) : Bool := l.demod && l.lineState == .online

/-- START_EDGE (R70). -/
def execStartEdge (s : State) : Host.Outcome State Fault Refusal :=
  eventWhen (receiving s.lu && s.lu.receiver == .hunt) startEdgeSeen s

/-- The receiver takes decisions outside a frame (R69, R77). -/
def outsideFrame (r : Receiver) : Bool := r != .idle && !r.insideFrame

/-- IDLE_MARK_DECISION (R77). -/
def execIdleMarkDecision (margin : Fin 16) (s : State) : Host.Outcome State Fault Refusal :=
  eventWhen (receiving s.lu && outsideFrame s.lu.receiver) (bitDecided .mark margin.val) s

/-- The next decision is the last stop-bit sample (R71). -/
def lastStopIsNext (l : LineUnit) : Bool :=
  match l.receiver with
  | .frame r => r.bits.length + 2 == l.format.length
  | _ => false

/-- FRAME_COMPLETE (R74). -/
def execFrameComplete (d : Decision) (margin : Fin 16) (s : State) : Host.Outcome State Fault Refusal :=
  eventWhen (receiving s.lu && lastStopIsNext s.lu) (bitDecided (decisionOf d margin.val) margin.val) s

/-- The tenth mark of the idle run is next (R63); a false start empties the run first (log 16). -/
def tenthIdleIsNext (l : LineUnit) : Bool :=
  outsideFrame l.receiver && l.receiver != .verify && l.idleRun.count == 9

/-- IDLE_RUN_COMPLETE (R63). -/
def execIdleRunComplete (margin : Fin 16) (s : State) : Host.Outcome State Fault Refusal :=
  eventWhen (receiving s.lu && tenthIdleIsNext s.lu) (bitDecided .mark margin.val) s

/-- Decision 2N of a break candidate is next (R75). -/
def breakIsNext (l : LineUnit) : Bool :=
  match l.receiver with
  | .candidate c => c.count + 1 == 2 * l.format.length
  | _ => false

/-- BREAK_IN (R75). The margin of a candidate's space enters nothing (R63, R75), so the row carries none; 15 stands for it. -/
def execBreakIn (s : State) : Host.Outcome State Fault Refusal :=
  eventWhen (receiving s.lu && breakIsNext s.lu) (bitDecided .space 15) s

/-- The receiver holds a break candidate. -/
def Receiver.isCandidate : Receiver → Bool
  | .candidate _ => true
  | _ => false

/-- CANDIDATE_CHARACTER (R75). -/
def execCandidateCharacter (margin : Fin 16) (s : State) : Host.Outcome State Fault Refusal :=
  eventWhen (receiving s.lu && s.lu.receiver.isCandidate) (bitDecided .mark margin.val) s

/-- BREAK_END (R76). -/
def execBreakEnd (margin : Fin 16) (s : State) : Host.Outcome State Fault Refusal :=
  eventWhen (receiving s.lu && s.lu.receiver == .brk) (bitDecided .mark margin.val) s

/-! ## Hold timer and transmitter -/

/-- HOLD_TIMER_EXPIRY (R80); a HOLD_LIMIT of 0 keeps the timer from expiring (R79). -/
def execHoldTimerExpiry (s : State) : Host.Outcome State Fault Refusal :=
  if s.cbm.settings.holdLimit = 0 then .next s
  else expiry s.lu.holdTimer (s.cbm.settings.holdLimit * 1000000) expireHold s

/-- A transmit operation ends, which is a boundary (R84). -/
def operationDone (s : State) : State := boundary (s.withLu { s.lu with txOp := none })

/-- CHARACTER_OPERATION_COMPLETE (R82). -/
def execCharacterOperationComplete (s : State) : Host.Outcome State Fault Refusal :=
  match s.lu.txOp with
  | some (.character _ rate format start) => expiry (some start) (frameTime format rate) operationDone s
  | _ => .next s

/-- BREAK_SPACE ends: the request clears and the tail begins (R83). -/
def beginTail (s : State) : State :=
  s.withLu { s.lu with breakReq := false, txOp := some (.breakTail s.env.now) }

/-- BREAK_SPACE_END (R83). -/
def execBreakSpaceEnd (s : State) : Host.Outcome State Fault Refusal :=
  match s.lu.txOp with
  | some (.breakSpace start) => expiry (some start) 300000 beginTail s
  | _ => .next s

/-- BREAK_TAIL_COMPLETE (R83). -/
def execBreakTailComplete (s : State) : Host.Outcome State Fault Refusal :=
  match s.lu.txOp with
  | some (.breakTail start) => expiry (some start) (frameTime s.lu.format s.lu.rate) operationDone s
  | _ => .next s

end Sys2Proof.Machine
end

