-- ==== Sys2Proof/Machine/KeyEvents.lean ====
section
/-! DEFINITION. The meanings of the rows of the key scanner: scan passes, wake passes, the repeat timer. -/

namespace Sys2Proof.Machine

open Sys2Proof

/-- KS makes the passes of a scan mode, outside a held reset line (R113, R130, R132). -/
def scanning (mode : ScanMode) (s : State) : Bool := !s.mp.resetHeld && s.ks.scanMode == mode

/-- SCAN_PASS (R113), 5 ms after the pass before it. -/
def execScanPass (closed : BitVec 80) (s : State) : Host.Outcome State Fault Refusal :=
  eventWhen (scanning .matrix s) (fun t => scan closed (clockTo (s.ks.lastPass + 5000) t)) s

/-- WAKE_PASS (R130), 20 ms after the pass before it. -/
def execWakePass (closed : BitVec 80) (s : State) : Host.Outcome State Fault Refusal :=
  eventWhen (scanning .wake s) (fun t => wakeScan closed (clockTo (s.ks.lastPass + 20000) t)) s

/-- REPEAT_TIMER_EXPIRY (R122). -/
def execRepeatTimerExpiry (s : State) : Host.Outcome State Fault Refusal :=
  match s.ks.rep with
  | none => .next s
  | some t => expiry (some t.start) (t.limit * 50000) (expireRepeat t) s

end Sys2Proof.Machine
end

