-- ==== Sys2Proof/Machine/PrintEvents.lean ====
section
/-! DEFINITION. The meanings of the rows of the print path: the phase under way, the step, the waits, the cooling tick and the
readings. -/

namespace Sys2Proof.Machine

open Sys2Proof

/-! ## The phase under way (R163, R164) -/

/-- The pulse of a segment of the phase under way. -/
def pulseFor (s : State) (segment : Nat) : Option Pulse := s.sp.pulses.find? (fun p => p.segment == segment)

/-- The held dots of a segment stop being driven (R163). -/
def endHeldDots (segment : Nat) (s : State) : State :=
  match s.sp.plan with
  | none => s
  | some p => s.withSp { s.sp with dotData := dropHeldDots s.sp.dotData s.ps.latchImage p.decision segment }

/-- HELD_DOTS_END (R163). -/
def execHeldDotsEnd (segment : Fin 8) (s : State) : Host.Outcome State Fault Refusal :=
  match pulseFor s segment.val with
  | none => .next s
  | some p => expiry s.sp.phaseStart p.held (endHeldDots segment.val) s

/-- A segment's strobe turns off (R163). -/
def endStrobe (segment : Nat) (s : State) : State :=
  s.withSp { s.sp with strobes := s.sp.strobes.filter (fun i => i != segment) }

/-- SEGMENT_STROBE_END (R163). -/
def execSegmentStrobeEnd (segment : Fin 8) (s : State) : Host.Outcome State Fault Refusal :=
  match pulseFor s segment.val with
  | none => .next s
  | some p => expiry s.sp.phaseStart p.full (endStrobe segment.val) s

/-- HM takes the results of a phase (R164, R172). -/
def heatPhase (p : Plan) (s : State) : State :=
  s.withHm { s.hm with estimates := s.sp.pulses.foldl (heatSegment p.counts) s.hm.estimates }

/-- The segments of a phase join the burned ones (R164). -/
def burnSegments (p : Plan) (r : RowRecord) : RowRecord := { r with burned := r.burned ++ p.phases.getD p.current [] }

/-- What follows a phase's end (R144): the step after the last one; at a phase boundary a set hold request is taken, or the
next phase starts. -/
def afterPhase (p : Plan) (r : RowRecord) (s : State) : State :=
  if p.current + 1 < p.phases.length then
    if s.ps.holdRequest then enterHeld .inRow s else startPhase { p with current := p.current + 1 } r s
  else requestStep s

/-- The end of a phase (R163, R164, R144). -/
def endPhase (s : State) : State :=
  match s.sp.plan, s.ps.row with
  | some p, some r =>
    let s1 := strobesOff (heatPhase p s)
    afterPhase p (burnSegments p r) (s1.withPs { s1.ps with row := some (burnSegments p r) })
  | _, _ => s

/-- PHASE_END (R164). -/
def execPhaseEnd (s : State) : Host.Outcome State Fault Refusal :=
  expiry s.sp.phaseStart (phaseDuration s.sp.pulses) endPhase s

/-! ## The step (R181, R184) -/

/-- GATE_WAIT_EXPIRY (R184): the forced step. -/
def execGateWaitExpiry (s : State) : Host.Outcome State Fault Refusal := expiry s.pd.gateWait 60000 beginStep s

/-- The step completes, which is the row end (R181, R141). -/
def stepDone (s : State) : State :=
  rowEnd (s.withPd { s.pd with
    stepState := .idle
    stepStart := none
    position := (s.pd.position + 1) % 4 })

/-- STEP_COMPLETE (R181). -/
def execStepComplete (s : State) : Host.Outcome State Fault Refusal := expiry s.pd.stepStart 2500 stepDone s

/-! ## Heat and supply (R168, R171, R173, R176, R179) -/

/-- A cooling tick (R173), with what it may end (R176, R179). -/
def tick (s : State) : State := judgeTick (coolAll (s.withHm { s.hm with lastTick := s.env.now }))

/-- COOLING_TICK (R173), 5 ms after the tick before it. -/
def execCoolingTick (s : State) : Host.Outcome State Fault Refusal := expiry (some s.hm.lastTick) 5000 tick s

/-- PACING_TIMER_EXPIRY (R176). -/
def execPacingTimerExpiry (s : State) : Host.Outcome State Fault Refusal := expiry s.hm.pacing 250000 endPacing s

/-- A reading at the timer's expiry, after which the timer runs again; 46 or more ends a battery hold (R168, R171). -/
def timedReading (s : State) : State :=
  let s1 := startReadingTimer (takeReading s)
  if s1.ps.engine = .batteryHold ∧ supplyBelow 46 s1 = false then endBatteryHold s1 else s1

/-- READING_TIMER_EXPIRY (R168). -/
def execReadingTimerExpiry (s : State) : Host.Outcome State Fault Refusal :=
  expiry s.sm.readingTimer 100000 timedReading s

/-! ## The stepper drives (R181) -/

/-- The drives are on only while a step is in progress (R181). -/
def drivesOn (s : State) : Bool := s.pd.stepState == .stepping

end Sys2Proof.Machine
end

