-- ==== Sys2Proof/Machine/Resets.lean ====
section
/-! DEFINITION. The meanings of the reset rows: POWER_ON_RESET, RESET_LINE_ASSERT, RESET_LINE_RELEASE. -/

namespace Sys2Proof.Machine

open Sys2Proof

/-- The machine right after a power-on reset that ends at this moment, RAM, queue and surroundings kept (R21, R43, R67,
R93, R111, R132, R156, R167, R185, log 3). -/
def afterPowerOnReset (straps : BitVec 2) (s : State) : State :=
  { s with
    mp := MemoryPath.afterReset straps
    cbm := ControlBlock.afterReset
    lu := LineUnit.afterReset
    su := StreamUnit.afterReset
    ks := KeyScanner.afterReset s.env.now
    ps := PrintSequencer.afterReset
    sp := StrobePlanner.afterReset
    hm := HeatModel.afterPowerOn s.env.now
    sm := SupplyMonitor.afterReset
    pd := PaperDrive.afterReset }

/-- HM through a reset-line or a soft reset: estimates and cooling timer kept (R185). -/
def HeatModel.afterLaterReset (h : HeatModel) : HeatModel := { h with pacing := none, halt := .none }

/-- The machine at the assertion of the reset line: the reset-line values, with no slot granted while the line is held
(R13, R21, R43, R67, R93, R111, R132, R156, R167, R185, log 9). -/
def afterResetLine (s : State) : State :=
  { s with
    mp := { MemoryPath.afterReset s.mp.straps with resetHeld := true, hostWaiting := s.mp.hostWaiting }
    cbm := ControlBlock.afterReset
    lu := LineUnit.afterReset
    su := StreamUnit.afterReset
    ks := KeyScanner.afterReset s.env.now
    ps := PrintSequencer.afterReset
    sp := StrobePlanner.afterReset
    hm := s.hm.afterLaterReset
    sm := SupplyMonitor.afterReset
    pd := PaperDrive.afterReset }

/-- The host accesses that waited are granted under the reset values, in their order, each waiting until its own grant (R13). -/
def serveAll : List HostAccess → State → State
  | [], s => s
  | x :: rest, s => serveAll rest (serveWaiting x s)

/-- The reset line released: the straps are sampled (R1), the first scan pass counts from here (R132), and slots are granted
again. -/
def releaseLine (straps : BitVec 2) (s : State) : State :=
  (s.withMp { s.mp with straps := straps, resetHeld := false }).withKs
    { s.ks with lastPass := s.env.now }

/-- POWER_ON_RESET (R43). -/
def execPowerOnReset (straps : BitVec 2) (s : State) : Host.Outcome State Fault Refusal :=
  .next (afterPowerOnReset straps s)

/-- RESET_LINE_ASSERT (R13). -/
def execResetLineAssert (s : State) : Host.Outcome State Fault Refusal := .next (afterResetLine s)

/-- RESET_LINE_RELEASE (R1); a line that is not held has nothing to release (log 6). -/
def execResetLineRelease (straps : BitVec 2) (s : State) : Host.Outcome State Fault Refusal :=
  if s.mp.resetHeld then .next (serveAll s.mp.hostWaiting (releaseLine straps s)) else .next s

end Sys2Proof.Machine
end

