-- ==== Sys2Proof/Machine/Slots.lean ====
section
/-! DEFINITION. The meanings of the grant rows: each grants one slot of the RAM port to the internal access of its kind, when
the arbiter chooses it (R9 to R11, log 7). -/

namespace Sys2Proof.Machine

open Sys2Proof

/-- CBM presents a write-back of a status offset. -/
def statusPresented (s : State) : Bool :=
  match s.cbm.access with
  | some (.status _) => true
  | _ => false

/-- CBM presents the head of its answer queue, and the head is of a kind. -/
def answerPresented (kind : OwedWrite → Bool) (s : State) : Bool :=
  match s.cbm.access, s.cbm.answers with
  | some .answer, w :: _ => kind w
  | _, _ => false

/-- The kinds of the answer queue's write-backs (R24). -/
def OwedWrite.isPartIndex : OwedWrite → Bool
  | .partIndex _ => true
  | _ => false
def OwedWrite.isResult : OwedWrite → Bool
  | .result _ => true
  | _ => false
def OwedWrite.isClear : OwedWrite → Bool
  | .clearCmd => true
  | _ => false

/-- SU presents one of an entry's two bytes (R101). -/
def Deposit.isByte : Deposit → Bool
  | .byte0Wait | .byte1Wait => true
  | _ => false

/-- KS presents one of an event's four bytes (R125). -/
def Processing.isByte : Processing → Bool
  | .byteWait _ => true
  | _ => false

/-- PS presents a descriptor read, or an image read (R135). -/
def isDescriptorRead : Option PsAccess → Bool
  | some (.descriptorRead _ _) => true
  | _ => false
def isImageRead : Option PsAccess → Bool
  | some (.imageRead _ _) => true
  | _ => false

/-- STATUS_WRITE_BACK_GRANT (R37). -/
def execStatusWriteBackGrant (s : State) : Host.Outcome State Fault Refusal := grantWhen .cbm (statusPresented s) s

/-- PART_INDEX_CLEAR_GRANT (R24). -/
def execPartIndexClearGrant (s : State) : Host.Outcome State Fault Refusal :=
  grantWhen .cbm (answerPresented OwedWrite.isPartIndex s) s

/-- RESULT_WRITE_BACK_GRANT (R24). -/
def execResultWriteBackGrant (s : State) : Host.Outcome State Fault Refusal :=
  grantWhen .cbm (answerPresented OwedWrite.isResult s) s

/-- CMD_CLEAR_GRANT (R24). -/
def execCmdClearGrant (s : State) : Host.Outcome State Fault Refusal :=
  grantWhen .cbm (answerPresented OwedWrite.isClear s) s

/-- TX_RING_READ_GRANT (R89). -/
def execTxRingReadGrant (s : State) : Host.Outcome State Fault Refusal :=
  grantWhen .lu (s.lu.ringFetch == .readWait) s

/-- TX_CONS_WRITE_GRANT (R89). -/
def execTxConsWriteGrant (s : State) : Host.Outcome State Fault Refusal :=
  grantWhen .lu (s.lu.ringFetch == .indexWait) s

/-- STREAM_BYTE_GRANT (R101). -/
def execStreamByteGrant (s : State) : Host.Outcome State Fault Refusal := grantWhen .su s.su.deposit.isByte s

/-- RX_PROD_WRITE_GRANT (R101). -/
def execRxProdWriteGrant (s : State) : Host.Outcome State Fault Refusal :=
  grantWhen .su (s.su.deposit == .indexWait) s

/-- KEYMAP_READ_GRANT (R124). -/
def execKeymapReadGrant (s : State) : Host.Outcome State Fault Refusal := grantWhen .ks (s.ks.proc == .lookupWait) s

/-- KEY_EVENT_BYTE_GRANT (R125). -/
def execKeyEventByteGrant (s : State) : Host.Outcome State Fault Refusal := grantWhen .ks s.ks.proc.isByte s

/-- KEY_PROD_WRITE_GRANT (R125). -/
def execKeyProdWriteGrant (s : State) : Host.Outcome State Fault Refusal := grantWhen .ks (s.ks.proc == .indexWait) s

/-- DESCRIPTOR_READ_GRANT (R136). -/
def execDescriptorReadGrant (s : State) : Host.Outcome State Fault Refusal :=
  grantWhen .ps (isDescriptorRead s.ps.access) s

/-- IMAGE_READ_GRANT (R137). -/
def execImageReadGrant (s : State) : Host.Outcome State Fault Refusal := grantWhen .ps (isImageRead s.ps.access) s

/-- DESCRIPTOR_RESULT_WRITE_GRANT (R135). -/
def execDescriptorResultWriteGrant (s : State) : Host.Outcome State Fault Refusal :=
  grantWhen .ps (s.ps.access == some .resultWrite) s

/-- PQ_CONS_WRITE_GRANT (R135). -/
def execPqConsWriteGrant (s : State) : Host.Outcome State Fault Refusal :=
  grantWhen .ps (s.ps.access == some .indexWrite) s

end Sys2Proof.Machine
end

