-- ==== Sys2Proof/Machine/Dispatch.lean ====
section
/-! DEFINITION. One arm per command: its meaning. -/

namespace Sys2Proof.Machine

def exec (i : Instr) (s : State) : Host.Outcome State Fault Refusal :=
  match i with
  | .powerOnReset straps => Sys2Proof.Machine.execPowerOnReset straps s
  | .resetLineAssert => Sys2Proof.Machine.execResetLineAssert s
  | .resetLineRelease straps => Sys2Proof.Machine.execResetLineRelease straps s
  | .hostRead address => Sys2Proof.Machine.execHostRead address s
  | .hostWrite address value => Sys2Proof.Machine.execHostWrite address value s
  | .argWrite index value => Sys2Proof.Machine.execArgWrite index value s
  | .settingWrite reg value => Sys2Proof.Machine.execSettingWrite reg value s
  | .geometryWrite reg value => Sys2Proof.Machine.execGeometryWrite reg value s
  | .producerIndexWrite reg value => Sys2Proof.Machine.execProducerIndexWrite reg value s
  | .consumerIndexWrite reg value => Sys2Proof.Machine.execConsumerIndexWrite reg value s
  | .acknowledge word mask => Sys2Proof.Machine.execAcknowledge word mask s
  | .unknown code => Sys2Proof.Machine.execUnknown code s
  | .connect => Sys2Proof.Machine.execConnect s
  | .disconnect => Sys2Proof.Machine.execDisconnect s
  | .sendBreak => Sys2Proof.Machine.execSendBreak s
  | .printHold => Sys2Proof.Machine.execPrintHold s
  | .printResume => Sys2Proof.Machine.execPrintResume s
  | .printCancel => Sys2Proof.Machine.execPrintCancel s
  | .ringsReset => Sys2Proof.Machine.execRingsReset s
  | .guardSet => Sys2Proof.Machine.execGuardSet s
  | .guardOpen => Sys2Proof.Machine.execGuardOpen s
  | .guardClose => Sys2Proof.Machine.execGuardClose s
  | .guardTight => Sys2Proof.Machine.execGuardTight s
  | .confirm => Sys2Proof.Machine.execConfirm s
  | .clearAll => Sys2Proof.Machine.execClearAll s
  | .standby => Sys2Proof.Machine.execStandby s
  | .wake => Sys2Proof.Machine.execWake s
  | .softReset => Sys2Proof.Machine.execSoftReset s
  | .statusWriteBackGrant => Sys2Proof.Machine.execStatusWriteBackGrant s
  | .partIndexClearGrant => Sys2Proof.Machine.execPartIndexClearGrant s
  | .resultWriteBackGrant => Sys2Proof.Machine.execResultWriteBackGrant s
  | .cmdClearGrant => Sys2Proof.Machine.execCmdClearGrant s
  | .carrierPresent => Sys2Proof.Machine.execCarrierPresent s
  | .carrierAbsent => Sys2Proof.Machine.execCarrierAbsent s
  | .qualifyExpiry => Sys2Proof.Machine.execQualifyExpiry s
  | .listenExpiry => Sys2Proof.Machine.execListenExpiry s
  | .integrationComplete margin => Sys2Proof.Machine.execIntegrationComplete margin s
  | .lossHoldExpiry => Sys2Proof.Machine.execLossHoldExpiry s
  | .startEdge => Sys2Proof.Machine.execStartEdge s
  | .idleMarkDecision margin => Sys2Proof.Machine.execIdleMarkDecision margin s
  | .frameComplete decision margin => Sys2Proof.Machine.execFrameComplete decision margin s
  | .idleRunComplete margin => Sys2Proof.Machine.execIdleRunComplete margin s
  | .breakIn => Sys2Proof.Machine.execBreakIn s
  | .candidateCharacter margin => Sys2Proof.Machine.execCandidateCharacter margin s
  | .breakEnd margin => Sys2Proof.Machine.execBreakEnd margin s
  | .holdTimerExpiry => Sys2Proof.Machine.execHoldTimerExpiry s
  | .characterOperationComplete => Sys2Proof.Machine.execCharacterOperationComplete s
  | .breakSpaceEnd => Sys2Proof.Machine.execBreakSpaceEnd s
  | .breakTailComplete => Sys2Proof.Machine.execBreakTailComplete s
  | .txRingReadGrant => Sys2Proof.Machine.execTxRingReadGrant s
  | .txConsWriteGrant => Sys2Proof.Machine.execTxConsWriteGrant s
  | .streamByteGrant => Sys2Proof.Machine.execStreamByteGrant s
  | .rxProdWriteGrant => Sys2Proof.Machine.execRxProdWriteGrant s
  | .scanPass closed => Sys2Proof.Machine.execScanPass closed s
  | .repeatTimerExpiry => Sys2Proof.Machine.execRepeatTimerExpiry s
  | .wakePass closed => Sys2Proof.Machine.execWakePass closed s
  | .keymapReadGrant => Sys2Proof.Machine.execKeymapReadGrant s
  | .keyEventByteGrant => Sys2Proof.Machine.execKeyEventByteGrant s
  | .keyProdWriteGrant => Sys2Proof.Machine.execKeyProdWriteGrant s
  | .descriptorReadGrant => Sys2Proof.Machine.execDescriptorReadGrant s
  | .imageReadGrant => Sys2Proof.Machine.execImageReadGrant s
  | .descriptorResultWriteGrant => Sys2Proof.Machine.execDescriptorResultWriteGrant s
  | .pqConsWriteGrant => Sys2Proof.Machine.execPqConsWriteGrant s
  | .heldDotsEnd segment => Sys2Proof.Machine.execHeldDotsEnd segment s
  | .segmentStrobeEnd segment => Sys2Proof.Machine.execSegmentStrobeEnd segment s
  | .phaseEnd => Sys2Proof.Machine.execPhaseEnd s
  | .gateWaitExpiry => Sys2Proof.Machine.execGateWaitExpiry s
  | .stepComplete => Sys2Proof.Machine.execStepComplete s
  | .coolingTick => Sys2Proof.Machine.execCoolingTick s
  | .pacingTimerExpiry => Sys2Proof.Machine.execPacingTimerExpiry s
  | .readingTimerExpiry => Sys2Proof.Machine.execReadingTimerExpiry s
  | .bitDecision decision margin => Sys2Proof.Machine.execBitDecision decision margin s

end Sys2Proof.Machine
end

