-- ==== Sys2Proof/Machine/Step.lean ====
section
/-! DEFINITION. One step: the command at the front of the queue, or idling. -/

namespace Sys2Proof.Machine

open Sys2Proof

/-- A step with nothing waiting: the model's clock moves by a microsecond (log 4), the phase of the tone out with it (log 34). -/
def idle (s : State) : State := clockTo (s.env.now + 1) s

/-- One step: the command at the front of the queue acts on the state with the queue's rest. -/
def step (s : State) : Host.Outcome State Fault Refusal :=
  match s.pending with
  | [] => .next (idle s)
  | c :: rest => exec c (s.withPending rest)

/-- `s` with the command that a word spells put at the front of its queue; no word spells one (log 25). -/
def State.withFetchWord (s : State) (nbits w : Nat) : State :=
  match decodeTableWord nbits w with
  | none => s
  | some c => s.withPending (c :: s.pending)

end Sys2Proof.Machine
end

