-- ==== Sys2Proof/Safety.lean ====
section
/-! DEFINITION. What counts as a good state: the bounds the rules give each block, RAM in its canonical form, and the part's
own pages outside the window set. -/

namespace Sys2Proof.Machine

open Sys2Proof

/-- A frame record's lowest margin is a margin (R70). -/
def Receiver.bounded : Receiver → Prop
  | .frame r => r.lowest ≤ 15
  | _ => True

/-- LU's bounds: Qs 0..240 (R62), margins 0..15 (R52, R63), counts of the runs, at most 16 key characters (R90). -/
def LineUnit.bounded (l : LineUnit) : Prop :=
  l.qs ≤ 240 ∧ l.integRun.lowest ≤ 15 ∧ l.idleRun.lowest ≤ 15 ∧ l.idleRun.count < 10 ∧ l.receiver.bounded
    ∧ l.keyTx.length ≤ 16

/-- SU's bounds: at most 8 entries in staging, lost counts within their ends, and a lost count above 0 only while staging
holds 8 (R96, R98). -/
def StreamUnit.bounded (u : StreamUnit) : Prop :=
  u.staging.length ≤ 8 ∧ u.lostCount ≤ 255 ∧ u.lostTotal ≤ 65535 ∧ (0 < u.lostCount → u.staging.length = 8)

/-- KS's bounds: 80 records (R112), at most 8 events (R120), at most 4 held keys and none in the wake scan (R116, R129). -/
def KeyScanner.bounded (k : KeyScanner) : Prop :=
  k.records.length = 80 ∧ k.fifo.length ≤ 8 ∧ k.held.length ≤ 4 ∧ k.lostCount ≤ 255
    ∧ (k.scanMode = .wake → k.held = [])

/-- PS's bound: at most 15 local feeds (R146). -/
def PrintSequencer.bounded (p : PrintSequencer) : Prop := p.localFeeds ≤ 15

/-- The on-dots a plan counts in a segment; 0 for a segment it does not plan (R159). -/
def Plan.dots (p : Plan) (segment : Nat) : Nat :=
  match p.counts.find? (fun c => c.segment == segment) with
  | none => 0
  | some c => c.on

/-- The on-dots driven in one phase never exceed the allowance, and the allowance is never below 72 (R160). -/
def Plan.withinAllowance (p : Plan) : Prop :=
  72 ≤ p.allowance ∧ ∀ phase ∈ p.phases, (phase.map p.dots).sum ≤ p.allowance

/-- SP: outside a phase every strobe is off (R163), and a plan keeps to its allowance (R160). -/
def StrobePlanner.bounded (p : StrobePlanner) : Prop :=
  (p.phaseStart = none → p.strobes = []) ∧ ∀ q, p.plan = some q → q.withinAllowance

/-- PD's sequence position is 0..3 (R181). -/
def PaperDrive.bounded (p : PaperDrive) : Prop := p.position < 4

/-- CBM's dirty set is a part of the 28 status offsets, in ascending order, without duplicates (R37). -/
def ControlBlock.bounded (c : ControlBlock) : Prop := c.dirty.Sublist statusOffsets

/-- Every block within its bounds. -/
def Bounded (s : State) : Prop :=
  s.lu.bounded ∧ s.su.bounded ∧ s.ks.bounded ∧ s.ps.bounded ∧ s.sp.bounded ∧ s.pd.bounded ∧ s.cbm.bounded

/-- Every shadow within the range of R29, the dependent ones above the shadow they depend on. -/
def SettingsInRange (t : Settings) : Prop :=
  (t.lineRate = 110 ∨ t.lineRate = 150 ∨ t.lineRate = 300)
    ∧ (t.lineFormat.eightData = true → t.lineFormat.parity = .none)
    ∧ (t.lineFormat.eightData = false → t.lineFormat.parity ≠ .none)
    ∧ 2 ≤ t.xoffFree ∧ t.xoffFree ≤ 64 ∧ t.xoffFree + 2 ≤ t.xonFree ∧ t.xonFree ≤ 128
    ∧ t.holdLimit ≤ 60 ∧ 5 ≤ t.listenLimit ∧ t.listenLimit ≤ 60 ∧ 2 ≤ t.lossHold ∧ t.lossHold ≤ 60
    ∧ t.quietEnter ≤ 224 ∧ t.quietEnter + 16 ≤ t.quietExit ∧ t.quietExit ≤ 240
    ∧ t.weakMargin ≤ 15 ∧ t.darkness ≤ 7 ∧ 4 ≤ t.history ∧ t.history ≤ 8
    ∧ 40 ≤ t.warnTemp ∧ t.warnTemp ≤ 70 ∧ t.warnTemp + 5 ≤ t.stopTemp ∧ t.stopTemp ≤ 85
    ∧ 5 ≤ t.repeatDelay ∧ t.repeatDelay ≤ 20 ∧ 1 ≤ t.repeatInterval ∧ t.repeatInterval ≤ 5

/-- The arbiter's counts: host run 0..8, pass count 0..16 (R10, R11). -/
def CountsBounded (s : State) : Prop := s.mp.hostRun ≤ 8 ∧ s.mp.passCount ≤ 16

/-- Eight heat estimates, each within 0..1023 (R173). -/
def HeatBounded (s : State) : Prop := s.hm.estimates.length = 8 ∧ ∀ h ∈ s.hm.estimates, h ≤ 1023

/-- RAM in its canonical form (log 3). -/
def MemoryCanonical (s : State) : Prop := s.mem.wf = true

/-- No page the part writes lies in the window set (R12); while the reset line is held no window is enabled (R21). -/
def PartPagesClear (s : State) : Prop :=
  (∀ page, page < 128 → s.mp.windowSet page = true → partPage s page = false)
    ∧ (s.mp.resetHeld = true → ∀ w ∈ s.mp.windows, w.enabled = false)

end Sys2Proof.Machine
end

