-- ==== Sys2Proof/WellFormed.lean ====
section
/-! DEFINITION. Which terms of `Instr` are commands of the table: the operand types say it for every row but UNKNOWN, whose
code must be nonzero and outside the command table of section 2.9 (R25), and the two rows that carry either decision, where
margin 0 is a tie and a tie is a mark (R45). -/

namespace Sys2Proof

/-- The command codes of section 2.9. -/
def commandCodes : List Byte :=
  [0x01, 0x02, 0x03, 0x10, 0x11, 0x12, 0x20, 0x30, 0x31, 0x32, 0x33, 0x3F, 0x40, 0x50, 0x51, 0x5F]

/-- A decision the demodulator gives: a space has a margin of 1 or more, since margin 0 is a tie and a tie is decided as mark
(R45). -/
def Decision.given (d : Decision) (margin : Fin 16) : Bool := d == .mark || margin != 0

/-- A command is well formed when its row admits its operands: UNKNOWN takes a code that is a command (nonzero, R22) and is
not in the table (R25); a decision is one the demodulator gives (R45). -/
def Instr.wellFormed : Instr → Bool
  | .unknown code => code != 0 && !commandCodes.contains code
  | .bitDecision d margin => d.given margin
  | .frameComplete d margin => d.given margin
  | _ => true

end Sys2Proof
end

