-- ==== Sys2Proof/Certificates/Slice0/Obligations.lean ====
section
/-! DEFINITION. The statements for the provers, with the few words they share. -/

namespace Sys2Proof.Claims

open Sys2Proof Sys2Proof.Machine

/-! ## Words of the statements -/

/-- A host access presented now is granted at once: the reset line is not held, and the arbiter's turn is the host's (R10,
R13). -/
abbrev HostGoes (s : State) : Prop :=
  s.mp.resetHeld = false ∧ (s.mp.hostRun < 8 ∨ internalWaiting s = false)

/-- A host write has landed in RAM at a control block offset, with its grant counted (R6, R10). -/
def landed (offset : Nat) (v : Byte) (s : State) : State := writeByte (addrOf (s.base + offset)) v (countHost s)

/-- A command code has landed in CMD, and a pending record is discarded (R6, R28). -/
def taken (code : Byte) (s : State) : State :=
  (landed 0x00 code s).withCbm { s.cbm with pendingCmd := none }

/-- A command taken and answered, over the state its effect leaves: the slot is BUSY, and RESULT and the CMD clear are owed
(R23, R24). -/
def answered (r : Byte) (u : State) : State :=
  u.withCbm { u.cbm with slotBusy := true, answers := u.cbm.answers ++ [.result r, .clearCmd] }

/-- The state at a moment a timer is due, the clock never going back (log 5), and the phase of the tone out run on to it (R44,
log 34). -/
def atTime (due : Nat) (s : State) : State :=
  s.withEnv { s.env with
    now := max s.env.now due
    tonePhase := (s.env.tonePhase + s.lu.phasePassed s.env.now (max s.env.now due)) % 1000000 }

/-- The code a command row writes to CMD (section 2.9). -/
def codeOf : Instr → Option Byte
  | .connect => some 0x01
  | .disconnect => some 0x02
  | .sendBreak => some 0x03
  | .printHold => some 0x10
  | .printResume => some 0x11
  | .printCancel => some 0x12
  | .ringsReset => some 0x20
  | .guardSet => some 0x30
  | .guardOpen => some 0x31
  | .guardClose => some 0x32
  | .guardTight => some 0x33
  | .confirm => some 0x3F
  | .clearAll => some 0x40
  | .standby => some 0x50
  | .wake => some 0x51
  | .softReset => some 0x5F
  | .unknown code => some code
  | _ => none

/-- The control block offset and the byte a host row writes (section 2.8.1). -/
def blockWriteOf (c : Instr) : Option (Nat × Byte) :=
  match c with
  | .argWrite i v => some (0x02 + i.val, v)
  | .settingWrite reg v => some (SettingReg.offset reg, v)
  | .geometryWrite reg v => some (GeometryReg.offset reg, v)
  | .producerIndexWrite reg v => some (ProducerIndex.offset reg, v)
  | .consumerIndexWrite reg v => some (ConsumerIndex.offset reg, v)
  | .acknowledge word v => some (FlagWord.ackOffset word, v)
  | c => (codeOf c).map (fun v => (0x00, v))

/-- The access a host row presents. -/
def accessOf (s : State) (c : Instr) : Option HostAccess :=
  match c with
  | .hostRead a => some (.read a)
  | .hostWrite a v => some (.write a v)
  | c => (blockWriteOf c).map (fun p => .write (addrOf (s.base + p.1)) p.2)

/-- Offsets at which a host write only lands in RAM (R22): no command, argument, setting, geometry, index or
acknowledgement. -/
abbrev inertOffset (offset : Nat) (v : Byte) : Prop :=
  (offset = 0x00 ∧ v = 0) ∨ (0x08 ≤ offset ∧ offset ≤ 0x0F) ∨ offset = 0x16 ∨ offset = 0x17
    ∨ (0x2C ≤ offset ∧ offset ≤ 0x2F) ∨ (0x3C ≤ offset ∧ offset ≤ 0x3F) ∨ (0x4D ≤ offset ∧ offset ≤ 0x4F)
    ∨ (0x59 ≤ offset ∧ offset ≤ 0x5F) ∨ (0x66 ≤ offset ∧ offset ≤ 0x7F)

/-- The host row of an access. -/
def rowOf : HostAccess → Instr
  | .read a => .hostRead a
  | .write a v => .hostWrite a v

/-- The grant row of the access a requester presents (R9). -/
def grantRow (s : State) (r : Requester) : Option Instr :=
  match r with
  | .su => match s.su.deposit with
    | .none => none
    | .indexWait => some .rxProdWriteGrant
    | _ => some .streamByteGrant
  | .lu => match s.lu.ringFetch with
    | .none => none
    | .readWait => some .txRingReadGrant
    | .indexWait => some .txConsWriteGrant
  | .ks => match s.ks.proc with
    | .none => none
    | .lookupWait => some .keymapReadGrant
    | .byteWait _ => some .keyEventByteGrant
    | .indexWait => some .keyProdWriteGrant
  | .ps => match s.ps.access with
    | none => none
    | some .resultWrite => some .descriptorResultWriteGrant
    | some .indexWrite => some .pqConsWriteGrant
    | some (.descriptorRead _ _) => some .descriptorReadGrant
    | some (.imageRead _ _) => some .imageReadGrant
  | .cbm => match s.cbm.access, s.cbm.answers with
    | some (.status _), _ => some .statusWriteBackGrant
    | some .answer, .partIndex _ :: _ => some .partIndexClearGrant
    | some .answer, .result _ :: _ => some .resultWriteBackGrant
    | some .answer, .clearCmd :: _ => some .cmdClearGrant
    | _, _ => none

/-- CBM after power-on reset or reset-line reset (R43). -/
def ControlBlockReset (c : ControlBlock) : Prop :=
  c.slotBusy = true ∧ c.answers = [.result 0x00, .clearCmd] ∧ c.args = ⟨0, 0, 0, 0, 0, 0⟩ ∧ c.pendingCmd = none
    ∧ c.standby = false ∧ c.geometryRaw = ⟨0, 0, 0, 0, 0, 0, 0, 0, 0⟩ ∧ c.geometry = none
    ∧ c.txProd = 0 ∧ c.pqProd = 0 ∧ c.rxCons = 0 ∧ c.keyCons = 0 ∧ c.flagsLo = 0x08 ∧ c.flagsHi = 0x00
    ∧ c.dirty = statusOffsets ∧ c.raw = ⟨32, 144, 68⟩
    ∧ c.settings =
      { lineRate := 300, lineFormat := ⟨.even, false, false⟩, rxFlow := true, txFlow := true, echoHalf := false
        localCopy := false, direct := false, stepGate := .quiet, xoffChar := 0x13, xonChar := 0x11, xoffFree := 8
        xonFree := 32, holdLimit := 20, listenLimit := 30, lossHold := 15, quietEnter := 96, quietExit := 144
        weakMargin := 4, darkness := 4, history := 5, warnTemp := 55, stopTemp := 68, repeatDelay := 10
        repeatInterval := 2 }

/-- The line and the characters after each reset, less the role, rate, format and listen limit (R67, R93). -/
def LineReset (l : LineUnit) : Prop :=
  l.lineState = .off ∧ l.listenTimer = none ∧ l.qualifyTimer = none ∧ l.lossHold = none
    ∧ l.integRun = ⟨0, 15⟩ ∧ l.idleRun = ⟨0, 15⟩ ∧ l.onlineReached = false ∧ l.qs = 0 ∧ l.quiet = false
    ∧ l.txRest = .silent ∧ l.demod = false ∧ l.carrier = false ∧ l.receiver = .idle ∧ l.idleMark = false
    ∧ l.remoteHold = false ∧ l.holdTimer = none ∧ l.breakReq = false ∧ l.txOp = none ∧ l.ringFetch = .none
    ∧ l.txCons = 0 ∧ l.keyTx = []

/-- SU after each reset, less LOST_TOTAL (R111). -/
def StreamReset (u : StreamUnit) : Prop :=
  u.staging = [] ∧ u.lostCount = 0 ∧ u.producer = 0 ∧ u.consumerCopy = 0 ∧ u.deposit = .none ∧ u.ownFlow = .flowing

/-- KS after each reset that ends at `now` (R132). -/
def KeyReset (now : Nat) (k : KeyScanner) : Prop :=
  k.scanMode = .matrix ∧ k.lastPass = now ∧ k.records.length = 80
    ∧ (∀ r ∈ k.records, r.debounce = .opened ∧ r.press = .lost ∧ r.value = 0xFF)
    ∧ k.held = [] ∧ k.shiftDown = false ∧ k.ctrlDown = false ∧ k.rep = none ∧ k.fifo = [] ∧ k.lostCount = 0
    ∧ k.producer = 0 ∧ k.consumerCopy = 0 ∧ k.proc = .none

/-- PS after each reset (R156). -/
def PrintReset (p : PrintSequencer) : Prop :=
  p.engine = .idle ∧ p.fetchIndex = 0 ∧ p.consumer = 0 ∧ p.cache = .empty ∧ p.latch = none
    ∧ p.latchImage = List.replicate 72 0 ∧ p.completion = [] ∧ p.access = none ∧ p.row = none ∧ p.history = none
    ∧ p.holdRequest = false ∧ p.cancel = none ∧ p.woundBack = false ∧ p.localFeeds = 0

/-- SP after each reset (R167). -/
def StrobeReset (p : StrobePlanner) : Prop :=
  p.plan = none ∧ p.pulses = [] ∧ p.phaseStart = none ∧ p.strobes = [] ∧ p.dotData = List.replicate 72 0

/-- A step's state and timers after each reset (R185). -/
def StepReset (p : PaperDrive) : Prop := p.stepState = .idle ∧ p.stepStart = none ∧ p.gateWait = none

end Sys2Proof.Claims

open Sys2Proof Sys2Proof.Machine Sys2Proof.Claims

/-! ## The queue, the clock, the end of an event -/

/-- A step runs the command at the front of the queue on the state with the queue's rest. With an empty queue it only moves
the model's clock by a microsecond (log 4, the model's choice), and the phase of the tone out with it (R44, log 34). -/
def Obligations.StepRunsTheFrontCommand : Prop :=
  (∀ (c : Instr) (rest : List Instr) (s : State), s.pending = c :: rest → step s = exec c (s.withPending rest)) ∧
  (∀ s : State, s.pending = [] → step s = .next (atTime (s.env.now + 1) s))

/-- Every command answers a next state in every state, and none touches the queue (the spec gives the part no fault,
log 1). -/
def Obligations.EveryCommandCompletesAndLeavesTheQueue : Prop :=
  ∀ (c : Instr) (s : State), ∃ t, exec c s = .next t ∧ t.pending = s.pending

/-- The end of an event, `settle before s`: PD's further attempt while WAITING when an input of the gate changed (R183); the
offsets whose value the event changed join the dirty set (R37); PS and CBM present their next access when they have none
(R135, R24, R37). Nothing else changes. The value behind a status offset is the one its write-back carries (R37): the whole of
a 16-bit value behind both of its bytes.
That the next access is chosen at the end of an event, the lowest dirty offset then first, and that the dirty set takes what an event changed on the whole, are the model's (logs 14 and 15).
So is that the further attempt is made at the end of the event: a step begun because a completing frame's Qs update turned quiet mode off does not mark that frame WEAK (R74, R183; log 33). -/
def Obligations.EndOfEventReportsAndPresents : Prop :=
  (∀ before s : State,
    settle before s =
      let r := reattempt before s
      let dirty := statusOffsets.filter (fun o => r.cbm.dirty.contains o || statusValue before o != statusValue r o)
      (r.withPs { r.ps with access := match r.ps.access with | some a => some a | none => nextPsAccess r }).withCbm
        { r.cbm with
          dirty := dirty
          access := match r.cbm.access, r.cbm.answers, dirty with
            | some a, _, _ => some a
            | none, _ :: _, _ => some .answer
            | none, [], o :: _ => some (.status o)
            | none, [], [] => none }) ∧
  (∀ before s : State, s.pd.stepState ≠ .waiting → reattempt before s = s) ∧
  (∀ before s : State, gateChanged before s = false → reattempt before s = s) ∧
  (∀ before s : State, gateChanged before s = true ↔
    before.lu.receiver.stage ≠ s.lu.receiver.stage ∨ before.lu.idleMark ≠ s.lu.idleMark ∨
      before.lu.lineState ≠ s.lu.lineState ∨ before.lu.quiet ≠ s.lu.quiet ∨
      before.cbm.settings.stepGate ≠ s.cbm.settings.stepGate) ∧
  (∀ before s : State, attemptAllows s = false → reattempt before s = s) ∧
  (∀ before s : State, s.pd.stepState = .waiting → gateChanged before s = true → attemptAllows s = true →
    reattempt before s = beginStep s) ∧
  (∀ (s : State) (o : Nat), o ∈ statusOffsets →
    statusByte s o = byteOf (if o = 0x27 ∨ o = 0x29 then statusValue s o / 256 else statusValue s o)) ∧
  (∀ (s : State) (o : Nat), o ∈ [0x1C, 0x1D, 0x1E, 0x1F, 0x20, 0x23, 0x24, 0x2B, 0x30, 0x33, 0x36, 0x39] →
    statusValue s o < 256) ∧
  (∀ s : State,
    statusValue s 0x21 = s.lu.qs ∧ statusValue s 0x22 = s.sm.supply.getD 0 ∧ statusValue s 0x25 = s.mp.guardHits ∧
    statusValue s 0x26 = s.mp.guardFirst.toNat ∧ statusValue s 0x27 = s.mp.guardFirst.toNat ∧
    statusValue s 0x28 = s.su.lostTotal ∧ statusValue s 0x29 = s.su.lostTotal ∧
    statusValue s 0x2A = s.mp.openPage.getD 0xFF ∧
    ∀ i, i < 4 → ∀ w, s.mp.windows[i]? = some w →
      statusValue s (0x31 + 3 * i) = w.lower ∧ statusValue s (0x32 + 3 * i) = w.upper)

/-! ## Resets -/

/-- POWER_ON_RESET: every value the rules give (R1, R13, R21, R43, R67, R93, R111, R132, R156, R167, R185); RAM holds whatever
it held before (R21), and the queue and the surroundings stay.
Not the rules' but the model's: the RAM bytes and the clock are those before (logs 2 and 3), so is the phase of the tone out (log
34); the reset line is not held and no host access waits (log 9), and no wait is shown (log 21). -/
def Obligations.PowerOnResetValues : Prop :=
  ∀ (straps : BitVec 2) (s : State), ∃ t, exec (.powerOnReset straps) s = .next t ∧
    t.mem = s.mem ∧ t.env = s.env ∧ t.pending = s.pending ∧
    t.mp.straps = straps ∧ t.mp.windows = List.replicate 4 ⟨false, 0, 0, false⟩ ∧ t.mp.openPage = none ∧
    t.mp.tight = false ∧ t.mp.guardHits = 0 ∧ t.mp.guardFirst = 0 ∧ t.mp.hostRun = 0 ∧ t.mp.passCount = 0 ∧
    t.mp.resetHeld = false ∧ t.mp.hostWaiting = [] ∧ t.mp.hostWaited = false ∧
    ControlBlockReset t.cbm ∧ LineReset t.lu ∧ t.lu.role = .originate ∧ t.lu.rate = 300 ∧
    t.lu.format = ⟨.even, false, false⟩ ∧ t.lu.listenLimit = 30 ∧ StreamReset t.su ∧ t.su.lostTotal = 0 ∧
    KeyReset s.env.now t.ks ∧ PrintReset t.ps ∧ StrobeReset t.sp ∧
    t.hm = ⟨List.replicate 8 0, s.env.now, none, .none⟩ ∧ t.sm = ⟨none, none, none⟩ ∧ StepReset t.pd ∧ t.pd.position = 0

/-- RESET_LINE_ASSERT: the same values, with the base and the heat estimates kept and the cooling timer running on, and from
here no slot is granted (R1, R13, R21, R43, R67, R93, R111, R132, R156, R167, R185). RESET_LINE_RELEASE: the straps are
sampled, KS's scan timer starts from here, and the host accesses that waited are granted in their order, each waiting until its
own grant (R1, R13, R132). A release of a line that is not held leaves the state (log 6). What `serveWaiting` does is pinned
beside the host rows.
Not the rules' but the model's: any number of accesses wait in a list (log 9), no wait is shown after the assertion (log 21), RAM
keeps its bytes (log 3), and the surroundings stay, the phase of the tone out among them (log 34). -/
def Obligations.ResetLineValues : Prop :=
  (∀ s : State, ∃ t, exec .resetLineAssert s = .next t ∧
    t.mem = s.mem ∧ t.env = s.env ∧ t.pending = s.pending ∧
    t.mp.straps = s.mp.straps ∧ t.mp.resetHeld = true ∧ t.mp.hostWaiting = s.mp.hostWaiting ∧
    t.mp.hostWaited = false ∧
    t.mp.windows = List.replicate 4 ⟨false, 0, 0, false⟩ ∧ t.mp.openPage = none ∧
    t.mp.tight = false ∧ t.mp.guardHits = 0 ∧ t.mp.guardFirst = 0 ∧ t.mp.hostRun = 0 ∧ t.mp.passCount = 0 ∧
    ControlBlockReset t.cbm ∧ LineReset t.lu ∧ t.lu.role = .originate ∧ t.lu.rate = 300 ∧
    t.lu.format = ⟨.even, false, false⟩ ∧ t.lu.listenLimit = 30 ∧ StreamReset t.su ∧ t.su.lostTotal = 0 ∧
    KeyReset s.env.now t.ks ∧ PrintReset t.ps ∧ StrobeReset t.sp ∧
    t.hm = ⟨s.hm.estimates, s.hm.lastTick, none, .none⟩ ∧ t.sm = ⟨none, none, none⟩ ∧ StepReset t.pd ∧
    t.pd.position = 0 ∧ pick t = none) ∧
  (∀ (straps : BitVec 2) (s : State), s.mp.resetHeld = true →
    exec (.resetLineRelease straps) s =
      .next (s.mp.hostWaiting.foldl (fun t x => serveWaiting x t)
        ((s.withMp { s.mp with straps := straps, resetHeld := false }).withKs
          { s.ks with lastPass := s.env.now }))) ∧
  (∀ (straps : BitVec 2) (s : State), s.mp.resetHeld = false → exec (.resetLineRelease straps) s = .next s)

/-! ## Host accesses -/

/-- The rows of the host port: while the reset line is held the access waits (R13, log 9); once the host run count is 8 and
an internal access waits, that slot goes to the internal side and the host is granted in the next (R10, log 8); otherwise the
host is granted at once (R10). A slot that goes to the internal side is the grant row of the access the arbiter chooses. The wait
signal stands exactly while an access is presented and not granted: through that slot, and while the line is held (R10, R13).
The end of the event, `settle`, is the model's (logs 14, 15, 33). -/
def Obligations.HostRowsTakeTheirSlot : Prop :=
  let waits := fun (x : HostAccess) (s : State) => s.withMp { s.mp with hostWaiting := s.mp.hostWaiting ++ [x] }
  (∀ s : State, waitAsserted s = true ↔ s.mp.hostWaiting ≠ []) ∧
  (∀ (s : State) (r : Requester) (c : Instr), pick s = some r → grantRow s r = some c →
    exec c s = .next (grantTo r s)) ∧
  (∀ (x : HostAccess) (s : State),
    (HostGoes s → hostServe x s = settle s (hostGrant x s) ∧ serveWaiting x s = settle s (hostGrant x s) ∧
      exec (rowOf x) s = .next (hostServe x s)) ∧
    (∀ r, 8 ≤ s.mp.hostRun → pick s = some r →
      (waitAsserted (grantTo r (waits x s)) = true ∧ HostGoes (grantTo r (waits x s))) ∧
      hostServe x s = serveWaiting x (grantTo r (waits x s)) ∧ HostGoes (grantTo r s) ∧
      serveWaiting x s = serveWaiting x (grantTo r s))) ∧
  ∀ (c : Instr) (s : State) (x : HostAccess), accessOf s c = some x →
    (s.mp.resetHeld = true → exec c s = .next (waits x s)) ∧
    (∀ r, 8 ≤ s.mp.hostRun → pick s = some r →
      exec c s = .next (settle (grantTo r (waits x s)) (hostGrant x (grantTo r (waits x s))))) ∧
    (HostGoes s → exec c s = .next (settle s (hostGrant x s)))

/-- HOST_READ (R3): the byte RAM holds goes to the host unchanged, at every address and whatever the guard table. A read
changes no byte of RAM, no hit record, no flag and no shadow: beside the host's byte, the arbiter's counts and the wait that ends
with the grant (R10) only the accesses CBM and PS present next may change, and the dirty set gains nothing.
That the grant records whether the access waited is the model's (log 8), and so is that CBM and PS choose their next access at the
end of the event, with nothing reported that did not change (logs 14, 15). -/
def Obligations.HostReadGivesTheRamByte : Prop :=
  ∀ (a : Addr) (s : State), HostGoes s →
    ∃ t, exec (.hostRead a) s = .next t ∧ t.mp.hostData = some (Memory.read s.mem a.toNat) ∧
      t.mp = { s.mp with
        hostRun := t.mp.hostRun, passCount := t.mp.passCount, hostData := t.mp.hostData
        hostWaiting := s.mp.hostWaiting.tail, hostWaited := waitAsserted s } ∧
      t.cbm = { s.cbm with access := t.cbm.access, dirty := t.cbm.dirty } ∧ (∀ o ∈ t.cbm.dirty, o ∈ s.cbm.dirty) ∧
      t.ps = { s.ps with access := t.ps.access } ∧ t.mem = s.mem ∧ t.env = s.env ∧ t.pending = s.pending ∧
      t.lu = s.lu ∧ t.su = s.su ∧ t.ks = s.ks ∧ t.sp = s.sp ∧ t.hm = s.hm ∧ t.sm = s.sm ∧ t.pd = s.pd

/-- HOST_WRITE (R1, R2, R4 to R7), with the base the straps give, the control block's 128 bytes from it and its part-owned offsets:
an owned drop sets OWNED_HIT and a guarded drop counts, records and sets GUARD_HIT, both with RAM as
it was; a plain write lands; a write at an offset CBM does not act on only lands (R22); at an offset it acts on, HOST_WRITE
is the row of that offset.
The end of the event, `settle`, is the model's (logs 14, 15, 33).
What a host grant records of its wait is the model's (log 8). -/
def Obligations.HostWriteByItsClass : Prop :=
  (∀ s : State, s.base =
    if s.mp.straps = 0 then 0x7F80 else if s.mp.straps = 1 then 0x7F00 else if s.mp.straps = 2 then 0x0000 else 0x0080) ∧
  (∀ (s : State) (a : Addr), s.inBlock a = true ↔ s.base ≤ a.toNat ∧ a.toNat ≤ s.base + 0x7F) ∧
  (∀ (slotBusy : Bool) (o : Nat), partOwned slotBusy o = true ↔
    o = 0x01 ∨ (0x18 ≤ o ∧ o ≤ 0x2B) ∨ (0x30 ≤ o ∧ o ≤ 0x3B) ∨
      (slotBusy = true ∧ (o = 0x00 ∨ (0x02 ≤ o ∧ o ≤ 0x07)))) ∧
  (∀ (a : Addr) (v : Byte) (s : State), HostGoes s → s.inBlock a = true →
    partOwned s.cbm.slotBusy (a.toNat - s.base) = true →
    exec (.hostWrite a v) s =
      .next (settle s ((countHost s).withCbm { s.cbm with flagsLo := s.cbm.flagsLo ||| 0x02 }))) ∧
  (∀ (a : Addr) (v : Byte) (s : State), HostGoes s → s.inBlock a = false →
    s.mp.guardedSet (a.toNat / 256) = true →
    exec (.hostWrite a v) s =
      .next (settle s (((countHost s).withMp { (countHost s).mp with
        guardHits := if s.mp.guardHits < 255 then s.mp.guardHits + 1 else s.mp.guardHits
        guardFirst := if s.cbm.flagsLo.getLsbD 0 then s.mp.guardFirst else a.zeroExtend 16 }).withCbm
          { s.cbm with flagsLo := s.cbm.flagsLo ||| 0x01 }))) ∧
  (∀ (a : Addr) (v : Byte) (s : State), HostGoes s → s.inBlock a = false →
    s.mp.guardedSet (a.toNat / 256) = false →
    exec (.hostWrite a v) s = .next (settle s (writeByte a v (countHost s)))) ∧
  (∀ (a : Addr) (v : Byte) (s : State), HostGoes s → s.inBlock a = true →
    partOwned s.cbm.slotBusy (a.toNat - s.base) = false → inertOffset (a.toNat - s.base) v →
    exec (.hostWrite a v) s = .next (settle s (writeByte a v (countHost s)))) ∧
  (∀ (c : Instr) (s : State) (offset : Nat) (v : Byte), blockWriteOf c = some (offset, v) →
    exec c s = exec (.hostWrite (addrOf (s.base + offset)) v) s)

/-- While the slot is BUSY a write of CMD or of an argument byte is an owned drop: OWNED_HIT is set, nothing is taken, and a
pending record stays (R2, R5, R23). It holds of every command row and of ARG_WRITE.
The end of the event, `settle`, is the model's (logs 14, 15, 33).
What a host grant records of its wait is the model's (log 8). -/
def Sys2Proof.Claims.BusySlotDropsTheWrite : Prop :=
  (∀ (c : Instr) (code : Byte) (s : State), codeOf c = some code → HostGoes s → s.cbm.slotBusy = true →
    exec c s = .next (settle s ((countHost s).withCbm { s.cbm with flagsLo := s.cbm.flagsLo ||| 0x02 }))) ∧
  (∀ (i : Fin 6) (v : Byte) (s : State), HostGoes s → s.cbm.slotBusy = true →
    exec (.argWrite i v) s = .next (settle s ((countHost s).withCbm { s.cbm with flagsLo := s.cbm.flagsLo ||| 0x02 })))

/-- ARG_WRITE and GEOMETRY_WRITE (R22, R28): the byte lands and its shadow takes it; an argument write discards a pending
record.
The end of the event, `settle`, is the model's (logs 14, 15, 33).
What a host grant records of its wait is the model's (log 8). -/
def Sys2Proof.Claims.ArgumentAndGeometryShadows : Prop :=
  (∀ (i : Fin 6) (v : Byte) (s : State), HostGoes s → s.cbm.slotBusy = false →
    exec (.argWrite i v) s =
      .next (settle s ((landed (0x02 + i.val) v s).withCbm
        { s.cbm with args := s.cbm.args.set i v, pendingCmd := none }))) ∧
  (∀ (a : Args) (v : Byte),
    a.set 0 v = { a with arg0 := v } ∧ a.set 1 v = { a with arg1 := v } ∧ a.set 2 v = { a with arg2 := v } ∧
    a.set 3 v = { a with arg3 := v } ∧ a.set 4 v = { a with arg4 := v } ∧ a.set 5 v = { a with arg5 := v }) ∧
  (∀ (reg : GeometryReg) (v : Byte) (s : State), HostGoes s →
    exec (.geometryWrite reg v) s =
      .next (settle s ((landed (GeometryReg.offset reg) v s).withCbm
        { s.cbm with geometryRaw := s.cbm.geometryRaw.set reg v }))) ∧
  (∀ (g : Geometry) (v : Byte),
    g.set .txBase v = { g with txBase := v } ∧ g.set .txCap v = { g with txCap := v } ∧
    g.set .rxBase v = { g with rxBase := v } ∧ g.set .rxCap v = { g with rxCap := v } ∧
    g.set .keyBase v = { g with keyBase := v } ∧ g.set .keyCap v = { g with keyCap := v } ∧
    g.set .pqBase v = { g with pqBase := v } ∧ g.set .pqCap v = { g with pqCap := v } ∧
    g.set .keymapBase v = { g with keymapBase := v })

/-- SETTING_WRITE (R29, R30, R80): the byte lands and its shadows are formed again, the three that depend on another from their
last raw bytes; a HOLD_LIMIT at or below the time already held expires the running hold timer at once, with HOLD_EXPIRED, its
marker, and then the boundary (the order of the two is the model's choice, log 31).
The end of the event, `settle`, is the model's (logs 14, 15, 33).
What a host grant records of its wait is the model's (log 8). -/
def Sys2Proof.Claims.SettingWriteFormsTheShadow : Prop :=
  (∀ (raw : RawSettings) (v : Byte),
    raw.set .xonFree v = { raw with xonFree := v } ∧ raw.set .quietExit v = { raw with quietExit := v } ∧
    raw.set .stopTemp v = { raw with stopTemp := v } ∧
    ∀ reg, reg ≠ .xonFree → reg ≠ .quietExit → reg ≠ .stopTemp → raw.set reg v = raw) ∧
  (∀ s : State, expireHold s = boundary (arrive (.mark .holdExpired 0)
    ((s.withLu { s.lu with remoteHold := false, holdTimer := none }).withCbm
      { s.cbm with flagsHi := s.cbm.flagsHi ||| 0x08 }))) ∧
  (∀ (reg : SettingReg) (v : Byte) (s : State), HostGoes s →
    (reg = .holdLimit → ∀ start, s.lu.holdTimer = some start →
      v = 0 ∨ s.env.now < start + min 60 v.toNat * 1000000) →
    exec (.settingWrite reg v) s =
      .next (settle s ((landed (SettingReg.offset reg) v s).withCbm
        { s.cbm with
          raw := s.cbm.raw.set reg v
          settings := s.cbm.settings.set (s.cbm.raw.set reg v) reg v }))) ∧
  (∀ (v : Byte) (s : State) (start : Nat), HostGoes s → s.lu.holdTimer = some start → v ≠ 0 →
    start + min 60 v.toNat * 1000000 ≤ s.env.now →
    exec (.settingWrite .holdLimit v) s =
      .next (settle s (expireHold ((landed 0x47 v s).withCbm
        { s.cbm with settings := { s.cbm.settings with holdLimit := min 60 v.toNat } }))))

/-- The offsets of the host's bytes in the control block (section 2.8.1, R22). -/
def Sys2Proof.Claims.OffsetsOfHostBytes : Prop :=
  (SettingReg.offset .lineRate = 0x40 ∧ SettingReg.offset .lineFormat = 0x41 ∧ SettingReg.offset .lineOpts = 0x42 ∧
    SettingReg.offset .xoffChar = 0x43 ∧ SettingReg.offset .xonChar = 0x44 ∧ SettingReg.offset .xoffFree = 0x45 ∧
    SettingReg.offset .xonFree = 0x46 ∧ SettingReg.offset .holdLimit = 0x47 ∧ SettingReg.offset .listenLimit = 0x48 ∧
    SettingReg.offset .lossHold = 0x49 ∧ SettingReg.offset .quietEnter = 0x4A ∧ SettingReg.offset .quietExit = 0x4B ∧
    SettingReg.offset .weakMargin = 0x4C ∧ SettingReg.offset .darkness = 0x60 ∧ SettingReg.offset .history = 0x61 ∧
    SettingReg.offset .warnTemp = 0x62 ∧ SettingReg.offset .stopTemp = 0x63 ∧ SettingReg.offset .repeatDelay = 0x64 ∧
    SettingReg.offset .repeatInterval = 0x65) ∧
  (GeometryReg.offset .txBase = 0x50 ∧ GeometryReg.offset .txCap = 0x51 ∧ GeometryReg.offset .rxBase = 0x52 ∧
    GeometryReg.offset .rxCap = 0x53 ∧ GeometryReg.offset .keyBase = 0x54 ∧ GeometryReg.offset .keyCap = 0x55 ∧
    GeometryReg.offset .pqBase = 0x56 ∧ GeometryReg.offset .pqCap = 0x57 ∧ GeometryReg.offset .keymapBase = 0x58) ∧
  (∀ i : Fin 6, argOffset i = 0x02 + i.val) ∧
  (ProducerIndex.offset .txProd = 0x10 ∧ ProducerIndex.offset .pqProd = 0x11 ∧ ConsumerIndex.offset .rxCons = 0x12 ∧
    ConsumerIndex.offset .keyCons = 0x13 ∧ FlagWord.ackOffset .lo = 0x14 ∧ FlagWord.ackOffset .hi = 0x15) ∧
  (PartIndex.offset .txCons = 0x18 ∧ PartIndex.offset .pqCons = 0x19 ∧ PartIndex.offset .rxProd = 0x1A ∧
    PartIndex.offset .keyProd = 0x1B)

/-- The shadow each setting byte forms (R29): its clamp, the codes that are taken as another, the dependent shadows formed
again from their raw bytes, and every other shadow unchanged. -/
def Obligations.SettingShadowsAreClamped : Prop :=
  ∀ (t : Settings) (raw : RawSettings) (b : Byte), t.xoffFree ≤ 64 → t.quietEnter ≤ 224 → t.warnTemp ≤ 70 →
    t.set raw .lineRate b = { t with lineRate := if b = 1 then 110 else if b = 2 then 150 else 300 } ∧
    t.set raw .lineFormat b = { t with
      lineFormat :=
        { parity := if b.getLsbD 3 then .none else if b.toNat % 8 = 2 then .odd else if b.toNat % 8 = 3 then .mark
            else if b.toNat % 8 = 4 then .space else .even
          eightData := b.getLsbD 3
          twoStop := b.getLsbD 4 } } ∧
    t.set raw .lineOpts b = { t with
      rxFlow := b.getLsbD 0, txFlow := b.getLsbD 1, echoHalf := b.getLsbD 2, localCopy := b.getLsbD 3
      direct := b.getLsbD 4
      stepGate := if b.toNat / 32 % 4 = 0 then .off else if b.toNat / 32 % 4 = 1 then .quiet else .always } ∧
    t.set raw .xoffChar b = { t with xoffChar := b } ∧
    t.set raw .xonChar b = { t with xonChar := b } ∧
    t.set raw .xoffFree b = { t with
      xoffFree := max 2 (min 64 b.toNat)
      xonFree := max (max 2 (min 64 b.toNat) + 2) (min 128 raw.xonFree.toNat) } ∧
    t.set raw .xonFree b = { t with xonFree := max (t.xoffFree + 2) (min 128 b.toNat) } ∧
    t.set raw .holdLimit b = { t with holdLimit := min 60 b.toNat } ∧
    t.set raw .listenLimit b = { t with listenLimit := max 5 (min 60 b.toNat) } ∧
    t.set raw .lossHold b = { t with lossHold := max 2 (min 60 b.toNat) } ∧
    t.set raw .quietEnter b = { t with
      quietEnter := min 224 b.toNat
      quietExit := max (min 224 b.toNat + 16) (min 240 raw.quietExit.toNat) } ∧
    t.set raw .quietExit b = { t with quietExit := max (t.quietEnter + 16) (min 240 b.toNat) } ∧
    t.set raw .weakMargin b = { t with weakMargin := min 15 b.toNat } ∧
    t.set raw .darkness b = { t with darkness := min 7 b.toNat } ∧
    t.set raw .history b = { t with history := max 4 (min 8 b.toNat) } ∧
    t.set raw .warnTemp b = { t with
      warnTemp := max 40 (min 70 b.toNat)
      stopTemp := max (max 40 (min 70 b.toNat) + 5) (min 85 raw.stopTemp.toNat) } ∧
    t.set raw .stopTemp b = { t with stopTemp := max (t.warnTemp + 5) (min 85 b.toNat) } ∧
    t.set raw .repeatDelay b = { t with repeatDelay := max 5 (min 20 b.toNat) } ∧
    t.set raw .repeatInterval b = { t with repeatInterval := max 1 (min 5 b.toNat) }

/-- PRODUCER_INDEX_WRITE (R31, R41): a value at or above the applied capacity sets INDEX_ERROR and leaves the shadow; a value
below it becomes the shadow, which LU or PS acts on outside standby; with the rings UNSET the value is shadowed with no
check.
The end of the event, `settle`, is the model's (logs 14, 15, 33).
What a host grant records of its wait is the model's (log 8). -/
def Sys2Proof.Claims.ProducerIndexIsJudged : Prop :=
  ∀ (v : Byte) (s : State), HostGoes s →
    (s.cbm.geometry = none →
      exec (.producerIndexWrite .txProd v) s =
        .next (settle s ((landed 0x10 v s).withCbm { s.cbm with txProd := v.toNat })) ∧
      exec (.producerIndexWrite .pqProd v) s =
        .next (settle s ((landed 0x11 v s).withCbm { s.cbm with pqProd := v.toNat }))) ∧
    (∀ g, s.cbm.geometry = some g → g.txCap.toNat ≤ v.toNat →
      exec (.producerIndexWrite .txProd v) s =
        .next (settle s ((landed 0x10 v s).withCbm { s.cbm with flagsLo := s.cbm.flagsLo ||| 0x04 }))) ∧
    (∀ g, s.cbm.geometry = some g → g.pqCap.toNat ≤ v.toNat →
      exec (.producerIndexWrite .pqProd v) s =
        .next (settle s ((landed 0x11 v s).withCbm { s.cbm with flagsLo := s.cbm.flagsLo ||| 0x04 }))) ∧
    (∀ g, s.cbm.geometry = some g → v.toNat < g.txCap.toNat → s.cbm.standby = true ∨ v.toNat = s.lu.txCons →
      exec (.producerIndexWrite .txProd v) s =
        .next (settle s ((landed 0x10 v s).withCbm { s.cbm with txProd := v.toNat }))) ∧
    (∀ g, s.cbm.geometry = some g → v.toNat < g.txCap.toNat → s.cbm.standby = false → v.toNat ≠ s.lu.txCons →
      exec (.producerIndexWrite .txProd v) s =
        .next (settle s (boundary ((landed 0x10 v s).withCbm { s.cbm with txProd := v.toNat })))) ∧
    (∀ g, s.cbm.geometry = some g → v.toNat < g.pqCap.toNat → s.cbm.standby = true →
      exec (.producerIndexWrite .pqProd v) s =
        .next (settle s ((landed 0x11 v s).withCbm { s.cbm with pqProd := v.toNat }))) ∧
    (∀ g, s.cbm.geometry = some g → v.toNat < g.pqCap.toNat → s.cbm.standby = false →
      exec (.producerIndexWrite .pqProd v) s =
        .next (settle s (fetchWork (((landed 0x11 v s).withCbm { s.cbm with pqProd := v.toNat }).withPs
          { s.ps with
            woundBack := decide (ringDiff g.pqCap.toNat v.toNat s.ps.consumer
              < ringDiff g.pqCap.toNat s.ps.fetchIndex s.ps.consumer) }))))

/-- CONSUMER_INDEX_WRITE (R32, R41): a value on the forward path from the shadow to the part's producer, both ends included,
becomes the shadow, and outside standby SU's or KS's copy takes it in the same event (R100, R102, R123, R126); any other value
sets INDEX_ERROR; with the rings UNSET the value is shadowed with no check.
The end of the event, `settle`, is the model's (logs 14, 15, 33).
What a host grant records of its wait is the model's (log 8). -/
def Sys2Proof.Claims.ConsumerIndexIsJudged : Prop :=
  ∀ (v : Byte) (s : State), HostGoes s →
    (s.cbm.geometry = none →
      exec (.consumerIndexWrite .rxCons v) s =
        .next (settle s ((landed 0x12 v s).withCbm { s.cbm with rxCons := v.toNat })) ∧
      exec (.consumerIndexWrite .keyCons v) s =
        .next (settle s ((landed 0x13 v s).withCbm { s.cbm with keyCons := v.toNat }))) ∧
    (∀ g, s.cbm.geometry = some g →
      (g.rxCap.toNat ≤ v.toNat ∨
        ringDiff g.rxCap.toNat s.su.producer s.cbm.rxCons < ringDiff g.rxCap.toNat v.toNat s.cbm.rxCons) →
      exec (.consumerIndexWrite .rxCons v) s =
        .next (settle s ((landed 0x12 v s).withCbm { s.cbm with flagsLo := s.cbm.flagsLo ||| 0x04 }))) ∧
    (∀ g, s.cbm.geometry = some g →
      (g.keyCap.toNat ≤ v.toNat ∨
        ringDiff g.keyCap.toNat s.ks.producer s.cbm.keyCons < ringDiff g.keyCap.toNat v.toNat s.cbm.keyCons) →
      exec (.consumerIndexWrite .keyCons v) s =
        .next (settle s ((landed 0x13 v s).withCbm { s.cbm with flagsLo := s.cbm.flagsLo ||| 0x04 }))) ∧
    (∀ g, s.cbm.geometry = some g → v.toNat < g.rxCap.toNat →
      ringDiff g.rxCap.toNat v.toNat s.cbm.rxCons ≤ ringDiff g.rxCap.toNat s.su.producer s.cbm.rxCons →
      exec (.consumerIndexWrite .rxCons v) s =
        .next (settle s (
          let u := (landed 0x12 v s).withCbm { s.cbm with rxCons := v.toNat }
          if s.cbm.standby then u
          else tryDeposit (evaluateFlow (u.withSu { s.su with consumerCopy := v.toNat }))))) ∧
    (∀ g, s.cbm.geometry = some g → v.toNat < g.keyCap.toNat →
      ringDiff g.keyCap.toNat v.toNat s.cbm.keyCons ≤ ringDiff g.keyCap.toNat s.ks.producer s.cbm.keyCons →
      exec (.consumerIndexWrite .keyCons v) s =
        .next (settle s (
          let u := (landed 0x13 v s).withCbm { s.cbm with keyCons := v.toNat }
          if s.cbm.standby then u else tryProcess (u.withKs { s.ks with consumerCopy := v.toNat }))))

/-- ACKNOWLEDGE (R34, R8, R154, R178): the acknowledged flags clear, less those of FLAGS_HI that re-latch (HOT_STOP while the
engine is in HOT_HALT with some Teff at or above the STOP_TEMP shadow, BATTERY_LOW while the supply is below 46); GUARD_HITS
returns to 0 with GUARD_HIT; PRINT_DESC_ERROR lets the engine out of ERROR_STOP; a STOP halt that waited for HOT_STOP ends, or
waits for cooling, unless the flag re-latched.
A mask bit acts on its flag whether or not the flag was set (log 27). What the engine does as it leaves ERROR_STOP, `idleWork`, is
pinned beside WAKE; that a hold taken there bars no fetch is the model's choice (log 19).
The end of the event, `settle`, is the model's (logs 14, 15, 33).
What a host grant records of its wait is the model's (log 8). -/
def Sys2Proof.Claims.AcknowledgementClearsFlags : Prop :=
  (∀ (m : Byte) (s : State), HostGoes s →
    let u := ((landed 0x14 m s).withCbm { s.cbm with flagsLo := s.cbm.flagsLo &&& ~~~m }).withMp
      { (countHost s).mp with guardHits := if m.getLsbD 0 then 0 else s.mp.guardHits }
    (s.ps.engine ≠ .errorStop ∨ m.getLsbD 7 = false → exec (.acknowledge .lo m) s = .next (settle s u)) ∧
    (s.ps.engine = .errorStop → m.getLsbD 7 = true →
      exec (.acknowledge .lo m) s = .next (settle s (idleWork (u.withPs { s.ps with engine := .idle }))))) ∧
  (∀ (m : Byte) (s : State), HostGoes s →
    let hot := s.ps.engine == .hotHalt && s.hotAt s.cbm.settings.stopTemp
    let standing : Byte := (if hot then 0x40 else 0) ||| (if supplyBelow 46 s then 0x80 else 0)
    let u := (landed 0x15 m s).withCbm
      { s.cbm with flagsHi := (s.cbm.flagsHi &&& ~~~m) ||| (s.cbm.flagsHi &&& m &&& standing) }
    (m.getLsbD 6 = false ∨ s.hm.halt ≠ .ackWait ∨ s.ps.row = none ∨ (hot = true ∧ s.cbm.flagsHi.getLsbD 6 = true) →
      exec (.acknowledge .hi m) s = .next (settle s u)) ∧
    (∀ r, m.getLsbD 6 = true → s.hm.halt = .ackWait → s.ps.row = some r →
      (hot = false ∨ s.cbm.flagsHi.getLsbD 6 = false) →
      exec (.acknowledge .hi m) s =
        .next (settle s (if s.hotAt r.warn then u.withHm { s.hm with halt := .coolWait } else endHalt u))))

/-! ## Statements made of the above -/

/-- ARG_WRITE, GEOMETRY_WRITE and SETTING_WRITE (R22, R28 to R30, R80): each byte lands at its offset, and its shadow takes it. The order of a hold expiry's marker and boundary is log 31. -/
def Obligations.SetupWritesFormTheShadows : Prop :=
  OffsetsOfHostBytes ∧ ArgumentAndGeometryShadows ∧ SettingWriteFormsTheShadow

/-- PRODUCER_INDEX_WRITE and CONSUMER_INDEX_WRITE (R31, R32, R41). -/
def Obligations.IndexWritesAreJudged : Prop :=
  ProducerIndexIsJudged ∧ ConsumerIndexIsJudged

/-! ## Commands -/

/-- The answers given before any rule of an owner (R25, steps 1 and 2): in standby every command but WAKE is answered
IN_STANDBY and executes nothing; outside standby a code outside the table (the row UNKNOWN) is answered UNKNOWN and discards a
pending record.
The end of the event, `settle`, is the model's (logs 14, 15, 33).
What a host grant records of its wait is the model's (log 8). -/
def Sys2Proof.Claims.StandbyAndUnknownAnswers : Prop :=
  (∀ (c : Instr) (code : Byte) (s : State), codeOf c = some code → code ≠ 0x00 → code ≠ 0x51 → HostGoes s →
    s.cbm.slotBusy = false → s.cbm.standby = true →
    exec c s = .next (settle s (answered 0x09 (landed 0x00 code s)))) ∧
  (∀ (code : Byte) (s : State), (Instr.unknown code).wellFormed = true → HostGoes s →
    s.cbm.slotBusy = false → s.cbm.standby = false →
    exec (.unknown code) s = .next (settle s (answered 0x08 (taken code s))))

/-- CONNECT (R48, R49): in standby the answer IN_STANDBY; else its three checks in order, each with its refusal, and the
connection it starts.
The end of the event, `settle`, is the model's (logs 14, 15, 33).
What a host grant records of its wait is the model's (log 8). -/
def Obligations.ConnectChecksAndStarts : Prop :=
  (∀ s : State, HostGoes s → s.cbm.slotBusy = false → s.cbm.standby = true →
    exec .connect s = .next (settle s (answered 0x09 (landed 0x00 0x01 s)))) ∧
  ∀ s : State, HostGoes s → s.cbm.slotBusy = false → s.cbm.standby = false →
    (s.lu.lineState ≠ .off → exec .connect s = .next (settle s (answered 0x03 (taken 0x01 s)))) ∧
    (s.lu.lineState = .off → s.cbm.geometry = none →
      exec .connect s = .next (settle s (answered 0x04 (taken 0x01 s)))) ∧
    (s.lu.lineState = .off → s.cbm.geometry.isSome = true → 1 < s.cbm.args.arg0.toNat →
      exec .connect s = .next (settle s (answered 0x05 (taken 0x01 s)))) ∧
    (s.lu.lineState = .off → s.cbm.geometry.isSome = true → s.cbm.args.arg0.toNat ≤ 1 →
      exec .connect s = .next (settle s (answered 0x01 ((taken 0x01 s).withLu
        { s.lu with
          role := if s.cbm.args.arg0 = 0 then .originate else .answer
          rate := s.cbm.settings.lineRate
          format := s.cbm.settings.lineFormat
          listenLimit := s.cbm.settings.listenLimit
          onlineReached := false
          qs := 0
          quiet := false
          integRun := ⟨0, 15⟩
          idleRun := ⟨0, 15⟩
          demod := true
          carrier := false
          lineState := .listen
          listenTimer := some s.env.now
          txRest := if s.cbm.args.arg0 = 0 then .silent else .mark }))))

/-- Each entry to OFF (R60): timers, demodulator and carrier stop, the receiver leaves its frame, quiet mode, remote hold and
the break request end, the transmitter falls silent with a break cut and a character left to complete (R59), and SU's own flow
returns to FLOWING; everything else of LU and SU keeps its value.
R59 gives DISCONNECT alone the character left to complete; at the entries by LISTEN_EXPIRY and LOSS_HOLD_EXPIRY (R55, R58) that
clause is the model's choice (log 22). -/
def Sys2Proof.Claims.EntryToOff : Prop :=
  ∀ s : State,
    enterOff s = (s.withLu
      { s.lu with
        lineState := .off, listenTimer := none, qualifyTimer := none, lossHold := none, demod := false
        carrier := false, receiver := .idle, idleMark := false, quiet := false, remoteHold := false, holdTimer := none
        breakReq := false, txRest := .silent
        txOp := match s.lu.txOp with
          | some (.character c r f t) => some (.character c r f t)
          | _ => none }).withSu { s.su with ownFlow := .flowing }

/-- DISCONNECT (R59): OK in every line state; nothing more in OFF; elsewhere the line enters OFF, and after ONLINE has been
reached the CARRIER_DOWN flag is set and the marker CARRIER_DOWN with argument 1 goes to SU.
The end of the event, `settle`, is the model's (logs 14, 15, 33).
What a host grant records of its wait is the model's (log 8). -/
def Sys2Proof.Claims.DisconnectEndsTheConnection : Prop :=
  ∀ s : State, HostGoes s → s.cbm.slotBusy = false → s.cbm.standby = false →
    (s.lu.lineState = .off → exec .disconnect s = .next (settle s (answered 0x01 (taken 0x02 s)))) ∧
    (s.lu.lineState ≠ .off → s.lu.onlineReached = false →
      exec .disconnect s = .next (settle s (answered 0x01 (enterOff (taken 0x02 s))))) ∧
    (s.lu.lineState ≠ .off → s.lu.onlineReached = true →
      exec .disconnect s = .next (settle s (answered 0x01 (arrive (.mark .carrierDown 1)
        ((enterOff (taken 0x02 s)).withCbm
          { s.cbm with pendingCmd := none, flagsHi := s.cbm.flagsHi ||| 0x02 })))))

/-- SEND_BREAK (R87): refused outside ONLINE; merged while a request is pending or a break is in BREAK_SPACE; otherwise the
request becomes pending, with a boundary at once where there can be one (R84).
The end of the event, `settle`, is the model's (logs 14, 15, 33).
What a host grant records of its wait is the model's (log 8). -/
def Sys2Proof.Claims.SendBreakRequestsOrMerges : Prop :=
  ∀ s : State, HostGoes s → s.cbm.slotBusy = false → s.cbm.standby = false →
    (s.lu.lineState ≠ .online → exec .sendBreak s = .next (settle s (answered 0x03 (taken 0x03 s)))) ∧
    (s.lu.lineState = .online → (s.lu.breakReq = true ∨ ∃ t, s.lu.txOp = some (.breakSpace t)) →
      exec .sendBreak s = .next (settle s (answered 0x01 (taken 0x03 s)))) ∧
    (s.lu.lineState = .online → s.lu.breakReq = false → (∀ t, s.lu.txOp ≠ some (.breakSpace t)) →
      exec .sendBreak s =
        .next (settle s (answered 0x01 (boundary ((taken 0x03 s).withLu { s.lu with breakReq := true })))))

/-- PRINT_HOLD and PRINT_RESUME (R148 to R150, R152): answered OK; a set request is taken at once in IDLE and WAIT_CACHE; a cleared
request lets a HELD engine go on by its held point; a request already as asked changes nothing. The set and the clear, `setHold`
and `clearHold`, are the same for a key (R127, R149, R155).
The end of the event, `settle`, is the model's (logs 14, 15, 33).
What a host grant records of its wait is the model's (log 8). -/
def Obligations.HoldIsSetAndCleared : Prop :=
  (∀ s : State,
    ((s.ps.engine = .idle ∨ s.ps.engine = .waitCache) → s.cbm.standby = false →
      setHold s = cancelEffect (s.withPs
        { s.ps with holdRequest := true, heldPoint := .betweenRows, engine := .held })) ∧
    ((s.ps.engine ≠ .idle ∧ s.ps.engine ≠ .waitCache) ∨ s.cbm.standby = true →
      setHold s = s.withPs { s.ps with holdRequest := true }) ∧
    (s.ps.engine ≠ .held → clearHold s = s.withPs { s.ps with holdRequest := false }) ∧
    (s.ps.engine = .held → s.ps.heldPoint = .betweenRows →
      clearHold s = nextRow (s.withPs { s.ps with holdRequest := false })) ∧
    (s.ps.engine = .held → s.ps.heldPoint = .inRow →
      clearHold s = resumeRow (takeReading (s.withPs { s.ps with holdRequest := false })))) ∧
  ∀ s : State, HostGoes s → s.cbm.slotBusy = false → s.cbm.standby = false →
    (s.ps.holdRequest = true → exec .printHold s = .next (settle s (answered 0x01 (taken 0x10 s)))) ∧
    (s.ps.holdRequest = false → s.ps.engine ≠ .idle → s.ps.engine ≠ .waitCache →
      exec .printHold s =
        .next (settle s (answered 0x01 ((taken 0x10 s).withPs { s.ps with holdRequest := true })))) ∧
    (s.ps.holdRequest = false → (s.ps.engine = .idle ∨ s.ps.engine = .waitCache) →
      exec .printHold s =
        .next (settle s (answered 0x01 (cancelEffect ((taken 0x10 s).withPs
          { s.ps with holdRequest := true, heldPoint := .betweenRows, engine := .held }))))) ∧
    (s.ps.holdRequest = false → exec .printResume s = .next (settle s (answered 0x01 (taken 0x11 s)))) ∧
    (s.ps.holdRequest = true → s.ps.engine ≠ .held →
      exec .printResume s =
        .next (settle s (answered 0x01 ((taken 0x11 s).withPs { s.ps with holdRequest := false })))) ∧
    (s.ps.holdRequest = true → s.ps.engine = .held → s.ps.heldPoint = .betweenRows →
      exec .printResume s =
        .next (settle s (answered 0x01 (nextRow ((taken 0x11 s).withPs { s.ps with holdRequest := false }))))) ∧
    (s.ps.holdRequest = true → s.ps.engine = .held → s.ps.heldPoint = .inRow →
      exec .printResume s =
        .next (settle s (answered 0x01
          (resumeRow (takeReading ((taken 0x11 s).withPs { s.ps with holdRequest := false }))))))

/-- PRINT_CANCEL (R151, R152): answered OK, with the PQ_PROD shadow recorded as the limit; it waits for the row end in BURN,
STEP_WAIT and STEP, and takes effect at once in every other engine state. Whether the limit lies ahead of the fetch index is
judged here and recorded with it: not while the queue is wound back, and not behind the fetch index; that it is judged at this
moment is the model's choice (log 18).
The end of the event, `settle`, is the model's (logs 14, 15, 33).
What a host grant records of its wait is the model's (log 8). -/
def Sys2Proof.Claims.CancelIsRecordedOrTakesEffect : Prop :=
  ∀ s : State, HostGoes s → s.cbm.slotBusy = false → s.cbm.standby = false →
    let cap := s.geo Geometry.pqCap
    let ahead := !s.ps.woundBack &&
      decide (ringDiff cap s.ps.fetchIndex s.ps.consumer ≤ ringDiff cap s.cbm.pqProd s.ps.consumer)
    let u := (taken 0x12 s).withPs { s.ps with cancel := some ⟨s.cbm.pqProd, ahead⟩ }
    (s.ps.engine ∈ [.burn, .stepWait, .step] → exec .printCancel s = .next (settle s (answered 0x01 u))) ∧
    (s.ps.engine ∈ [.idle, .waitCache, .coolPace, .held, .hotHalt, .batteryHold, .errorStop] →
      exec .printCancel s = .next (settle s (answered 0x01 (cancelEffect u))))

/-- What a cancel that takes effect does (R153): the CANCELLED records of the latch, of the cache (BAD_DESC and
PRINT_DESC_ERROR for a BAD one) and of the unfetched positions up to the limit join the completion list in that order; latch,
cache, feeds, hold request and cancel request empty; the abandoned row and its plan, waits and timers end. With the rings UNSET
there are no records (R151). A read already presented is granted in its turn, its byte discarded. Without a pending cancel nothing changes. Outside ERROR_STOP the engine enters WAIT_CACHE with a new fetch, or IDLE.
A limit that did not lie ahead of the fetch index when it was recorded makes no record for an unfetched position; that the fetch
index then keeps its value is the model's choice (log 18). -/
def Sys2Proof.Claims.CancelEmptiesThePrinter : Prop :=
  (∀ s : State, s.ps.cancel = none → cancelEffect s = s) ∧
  ∀ (s : State) (c : CancelRequest), s.ps.cancel = some c →
    let t := cancelEffect s
    let cap := s.geo Geometry.pqCap
    let first := if s.ringsSet && c.ahead then c.limit else s.ps.fetchIndex
    t.ps.completion = s.ps.completion ++
      (if s.ringsSet then
        (match s.ps.latch with | some l => [⟨l.position, .cancelled⟩] | none => []) ++
        (match s.ps.cache with
          | .empty => []
          | .bad p => [⟨p, .badDesc⟩]
          | .fetching p _ => [⟨p, .cancelled⟩]
          | .loading p _ _ _ => [⟨p, .cancelled⟩]
          | .ready p _ _ => [⟨p, .cancelled⟩]) ++
        (if c.ahead then
          (List.range ((c.limit + cap - s.ps.fetchIndex) % cap)).map
            (fun i => ⟨(s.ps.fetchIndex + i) % cap, .cancelled⟩)
          else [])
      else []) ∧
    t.ps.latch = none ∧ t.ps.latchImage = s.ps.latchImage ∧ t.ps.localFeeds = 0 ∧ t.ps.holdRequest = false ∧
    t.ps.access = (match s.ps.access with
      | some (.descriptorRead a _) => some (.descriptorRead a true)
      | some (.imageRead a _) => some (.imageRead a true)
      | other => other) ∧
    t.ps.cancel = none ∧ t.ps.row = none ∧ t.ps.rowKind = none ∧ t.ps.consumer = s.ps.consumer ∧
    t.ps.history = (match s.ps.row with | some r => if r.burned = [] then s.ps.history else none | none => s.ps.history) ∧
    t.sp = { s.sp with plan := none } ∧ t.hm = { s.hm with pacing := none, halt := .none } ∧
    t.sm = { s.sm with readingTimer := none } ∧ t.pd = s.pd ∧ t.mem = s.mem ∧ t.mp = s.mp ∧ t.lu = s.lu ∧ t.su = s.su ∧
    t.ks = s.ks ∧
    t.cbm = (match s.ps.cache with | .bad _ => { s.cbm with flagsLo := s.cbm.flagsLo ||| 0x80 } | _ => s.cbm) ∧
    (s.ps.engine = .errorStop → t.ps.engine = .errorStop ∧ t.ps.cache = .empty ∧ t.ps.fetchIndex = first) ∧
    (s.ps.engine ≠ .errorStop →
      (s.ringsSet = true ∧ s.cbm.standby = false ∧ s.ps.woundBack = false ∧
        ringDiff cap first s.ps.consumer < ringDiff cap s.cbm.pqProd s.ps.consumer →
        t.ps.engine = .waitCache ∧ t.ps.cache = .fetching first [] ∧ t.ps.fetchIndex = (first + 1) % cap) ∧
      (s.ringsSet = false ∨ s.cbm.standby = true ∨ s.ps.woundBack = true ∨
        ringDiff cap s.cbm.pqProd s.ps.consumer ≤ ringDiff cap first s.ps.consumer →
        t.ps.engine = .idle ∧ t.ps.cache = .empty ∧ t.ps.fetchIndex = first))

/-- RINGS_RESET (R38, R39): its checks in order with their refusals, and what it makes of the geometry, the indices and the
FIFOs, with the four part index bytes owed ahead of RESULT (R24).
The end of the event, `settle`, is the model's (logs 14, 15, 33).
What a host grant records of its wait is the model's (log 8). -/
def Obligations.RingsResetChecksAndApplies : Prop :=
  ∀ s : State, HostGoes s → s.cbm.slotBusy = false → s.cbm.standby = false →
    let g := s.cbm.geometryRaw
    let idle := s.lu.lineState = .off ∧ s.ps.engine = .idle ∧ s.ps.cache = .empty
    let bases := ∀ b ∈ [g.txBase, g.rxBase, g.keyBase, g.pqBase, g.keymapBase], b.toNat ≤ 127
    let caps := (16 ≤ g.txCap.toNat ∧ g.txCap.toNat ≤ 255) ∧ (16 ≤ g.rxCap.toNat ∧ g.rxCap.toNat ≤ 255) ∧
      (8 ≤ g.keyCap.toNat ∧ g.keyCap.toNat ≤ 63) ∧ (4 ≤ g.pqCap.toNat ∧ g.pqCap.toNat ≤ 31)
    let w := taken 0x20 s
    (¬idle → exec .ringsReset s = .next (settle s (answered 0x03 w))) ∧
    (idle → ¬bases → exec .ringsReset s = .next (settle s (answered 0x05 w))) ∧
    (idle → bases → ¬caps → exec .ringsReset s = .next (settle s (answered 0x05 w))) ∧
    (idle → bases → caps → placeable g s = false → exec .ringsReset s = .next (settle s (answered 0x07 w))) ∧
    (idle → bases → caps → placeable g s = true →
      exec .ringsReset s = .next (settle s { w with
        cbm := { s.cbm with
          pendingCmd := none, geometry := some g, txProd := 0, pqProd := 0, rxCons := 0, keyCons := 0, slotBusy := true
          answers := s.cbm.answers ++ [.partIndex .txCons, .partIndex .pqCons, .partIndex .rxProd, .partIndex .keyProd]
            ++ [.result 0x01, .clearCmd] }
        lu := { s.lu with txCons := 0, keyTx := [], ringFetch := .none }
        su := { s.su with
          staging := [], lostCount := 0, producer := 0, consumerCopy := 0, deposit := .none, ownFlow := .flowing }
        ks := { s.ks with
          records := s.ks.records.map (fun r => if r.press = .pending then { r with press := .lost } else r)
          fifo := [], lostCount := 0, producer := 0, consumerCopy := 0, proc := .none }
        ps := { s.ps with
          fetchIndex := 0, consumer := 0, localFeeds := 0, completion := [], access := none, woundBack := false } }))

/-- Where a geometry may be placed (R38): every area ends by 0x7FFF, no two areas share a byte, none shares a byte with the
control block, and no ring (the keymap is none) has a byte in a page of the window set. -/
def Sys2Proof.Claims.PlacementOfAreas : Prop :=
  ∀ (g : Geometry) (s : State),
    let rings : List (Nat × Nat) := [(g.txBase.toNat * 256, g.txCap.toNat), (g.rxBase.toNat * 256, g.rxCap.toNat * 2),
      (g.keyBase.toNat * 256, g.keyCap.toNat * 4), (g.pqBase.toNat * 256, g.pqCap.toNat * 8)]
    let areas := rings ++ [(g.keymapBase.toNat * 256, 320)]
    let holds := fun (a : Nat × Nat) (x : Nat) => a.1 ≤ x ∧ x < a.1 + a.2
    (placeable g s = true ↔
      (∀ a ∈ areas, a.1 + a.2 ≤ 0x8000) ∧
      areas.Pairwise (fun a b => ¬∃ x, holds a x ∧ holds b x) ∧
      (∀ a ∈ areas, ¬∃ x, holds a x ∧ s.base ≤ x ∧ x ≤ s.base + 0x7F) ∧
      (∀ a ∈ rings, ∀ x, holds a x → s.mp.windowSet (x / 256) = false))

/-- The page sets of the guard table (R14): an enabled window guards the pages from LOWER to UPPER, or with INVERT the others;
the window set is the union; the device guarded set is the window set less the open page. A page is the part's when it holds
the control block or a byte of a set ring (R15). -/
def Sys2Proof.Claims.GuardedPageSets : Prop :=
  (∀ (m : MemoryPath) (p : Nat), m.windowSet p = true ↔
    ∃ w ∈ m.windows, w.enabled = true ∧
      ((w.invert = false ∧ w.lower ≤ p ∧ p ≤ w.upper) ∨ (w.invert = true ∧ ¬(w.lower ≤ p ∧ p ≤ w.upper)))) ∧
  (∀ (m : MemoryPath) (p : Nat), m.guardedSet p = true ↔ m.windowSet p = true ∧ m.openPage ≠ some p) ∧
  (∀ (s : State) (p : Nat), partPage s p = true ↔
    p = s.base / 256 ∨ ∃ g, s.cbm.geometry = some g ∧ ∃ a ∈ [(g.txBase.toNat * 256, g.txCap.toNat),
      (g.rxBase.toNat * 256, g.rxCap.toNat * 2), (g.keyBase.toNat * 256, g.keyCap.toNat * 4),
      (g.pqBase.toNat * 256, g.pqCap.toNat * 8)], ∃ x, a.1 ≤ x ∧ x < a.1 + a.2 ∧ x / 256 = p)

/-- The checks of the confirmable commands, in their order (R15, R16, R18, R26). -/
def Sys2Proof.Claims.ConfirmableChecksInOrder : Prop :=
  ∀ (a : Args) (s : State),
    let w : Window := ⟨a.arg3.getLsbD 0, a.arg1.toNat, a.arg2.toNat, a.arg3.getLsbD 1⟩
    let covers := ∃ p, p < 128 ∧ w.guards p = true ∧ partPage s p = true
    (s.mp.tight = true →
      confirmableCheck ⟨.guardSet, a⟩ s = some .locked ∧ confirmableCheck ⟨.guardOpen, a⟩ s = some .locked ∧
      confirmableCheck ⟨.guardTight, a⟩ s = some .locked) ∧
    (s.mp.tight = false → 3 < a.arg0.toNat ∨ 127 < a.arg1.toNat ∨ 127 < a.arg2.toNat ∨ a.arg2.toNat < a.arg1.toNat →
      confirmableCheck ⟨.guardSet, a⟩ s = some .badArg) ∧
    (s.mp.tight = false → a.arg0.toNat ≤ 3 → a.arg1.toNat ≤ a.arg2.toNat → a.arg2.toNat ≤ 127 → covers →
      confirmableCheck ⟨.guardSet, a⟩ s = some .overlap) ∧
    (s.mp.tight = false → a.arg0.toNat ≤ 3 → a.arg1.toNat ≤ a.arg2.toNat → a.arg2.toNat ≤ 127 → ¬covers →
      confirmableCheck ⟨.guardSet, a⟩ s = none) ∧
    (s.mp.tight = false → 127 < a.arg0.toNat → confirmableCheck ⟨.guardOpen, a⟩ s = some .badArg) ∧
    (s.mp.tight = false → a.arg0.toNat ≤ 127 → confirmableCheck ⟨.guardOpen, a⟩ s = none) ∧
    (s.mp.tight = false → confirmableCheck ⟨.guardTight, a⟩ s = none) ∧
    confirmableCheck ⟨.softReset, a⟩ s = none

/-- The byte of each answer (section 2.9, R24, R25). -/
def Sys2Proof.Claims.AnswerCodes : Prop :=
  Result.code .ok = 0x01 ∧ Result.code .awaitConfirm = 0x02 ∧ Result.code .refusedState = 0x03 ∧
  Result.code .ringsUnset = 0x04 ∧ Result.code .badArg = 0x05 ∧ Result.code .locked = 0x06 ∧
  Result.code .overlap = 0x07 ∧ Result.code .unknown = 0x08 ∧ Result.code .inStandby = 0x09 ∧
  Result.code .nothingToConfirm = 0x0A

/-- GUARD_SET, GUARD_OPEN, GUARD_TIGHT and SOFT_RESET when taken (R26): a failed check is the answer and no record is made;
otherwise AWAIT_CONFIRM, with the record {code, ARG0 to ARG5} held. An earlier record is discarded in either case.
The end of the event, `settle`, is the model's (logs 14, 15, 33).
What a host grant records of its wait is the model's (log 8). -/
def Sys2Proof.Claims.ConfirmableCommandsAwaitConfirm : Prop :=
  ∀ (c : Instr) (code : Byte) (k : Confirmable) (s : State),
    (c, code, k) ∈ [(.guardSet, 0x30, .guardSet), (.guardOpen, 0x31, .guardOpen), (.guardTight, 0x33, .guardTight),
      (.softReset, 0x5F, .softReset)] →
    HostGoes s → s.cbm.slotBusy = false → s.cbm.standby = false →
    (∀ r, confirmableCheck ⟨k, s.cbm.args⟩ s = some r →
      exec c s = .next (settle s (answered r.code (taken code s)))) ∧
    (confirmableCheck ⟨k, s.cbm.args⟩ s = none →
      exec c s = .next (settle s (answered 0x02 ((taken code s).withCbm
        { s.cbm with pendingCmd := some ⟨k, s.cbm.args⟩ }))))

/-- CONFIRM (R27, R15, R16, R18): without a record it is answered NOTHING_TO_CONFIRM; with one the checks run again with the
record's arguments, and a failed check is the answer; otherwise the guard command executes and the answer is OK. The record is
gone after it.
GUARD_SET reports its three offsets and GUARD_OPEN its one whether or not a byte changed (log 14).
The end of the event, `settle`, is the model's (logs 14, 15, 33).
What a host grant records of its wait is the model's (log 8). -/
def Sys2Proof.Claims.ConfirmExecutesTheRecord : Prop :=
  ∀ s : State, HostGoes s → s.cbm.slotBusy = false → s.cbm.standby = false →
    (s.cbm.pendingCmd = none → exec .confirm s = .next (settle s (answered 0x0A (landed 0x00 0x3F s)))) ∧
    (∀ p r, s.cbm.pendingCmd = some p → confirmableCheck p s = some r →
      exec .confirm s = .next (settle s (answered r.code (taken 0x3F s)))) ∧
    (∀ p, s.cbm.pendingCmd = some p → confirmableCheck p s = none →
      exec .confirm s = .next (settle s (answered 0x01 (confirmableEffect p (taken 0x3F s))))) ∧
    (∀ a, s.cbm.pendingCmd = some ⟨.guardSet, a⟩ → confirmableCheck ⟨.guardSet, a⟩ s = none →
      exec .confirm s = .next (settle s (answered 0x01 (((taken 0x3F s).withMp
        { (countHost s).mp with
          windows := s.mp.windows.set a.arg0.toNat
            ⟨a.arg3.getLsbD 0, a.arg1.toNat, a.arg2.toNat, a.arg3.getLsbD 1⟩ }).withCbm
        { s.cbm with
          pendingCmd := none
          dirty := statusOffsets.filter (fun o =>
            s.cbm.dirty.contains o || ((o - 0x30) / 3 == a.arg0.toNat && decide (0x30 ≤ o))) })))) ∧
    (∀ a, s.cbm.pendingCmd = some ⟨.guardOpen, a⟩ → confirmableCheck ⟨.guardOpen, a⟩ s = none →
      exec .confirm s = .next (settle s (answered 0x01 (((taken 0x3F s).withMp
        { (countHost s).mp with openPage := some a.arg0.toNat }).withCbm
        { s.cbm with
          pendingCmd := none
          dirty := statusOffsets.filter (fun o => s.cbm.dirty.contains o || o == 0x2A) })))) ∧
    (∀ a, s.cbm.pendingCmd = some ⟨.guardTight, a⟩ → confirmableCheck ⟨.guardTight, a⟩ s = none →
      exec .confirm s = .next (settle s (answered 0x01 ((taken 0x3F s).withMp { (countHost s).mp with tight := true }))))

/-- A SOFT_RESET executed by CONFIRM (R42, R13, R21, R67, R93, R111, R132, R156, R167, R185): what every block holds after
it.
Not the rules' but the model's: RAM keeps its other bytes (log 3), the clock stands still (log 5) and the phase of the tone
out is kept (log 34), the dirty set takes what changed on the whole (log 14), CBM presents its answer at the end of the event (log 15), and the grant records whether the
access waited (log 8). -/
def Obligations.SoftResetValues : Prop :=
  ∀ (s : State) (a : Args), HostGoes s → s.cbm.slotBusy = false → s.cbm.standby = false →
    s.cbm.pendingCmd = some ⟨.softReset, a⟩ →
    ∃ t, exec .confirm s = .next t ∧
      t.mem = Memory.write s.mem (addrOf s.base).toNat 0x3F ∧ t.env = s.env ∧ t.pending = s.pending ∧
      t.mp = { s.mp with
        hostRun := 0, passCount := 0, hostWaiting := s.mp.hostWaiting.tail, hostWaited := waitAsserted s } ∧
      t.cbm.slotBusy = true ∧ t.cbm.answers = s.cbm.answers ++ [.result 0x01, .clearCmd] ∧
      t.cbm.access = some .answer ∧ t.cbm.args = s.cbm.args ∧ t.cbm.pendingCmd = none ∧ t.cbm.standby = false ∧
      t.cbm.settings = s.cbm.settings ∧ t.cbm.raw = s.cbm.raw ∧ t.cbm.geometryRaw = s.cbm.geometryRaw ∧
      t.cbm.geometry = none ∧ t.cbm.txProd = 0 ∧ t.cbm.pqProd = 0 ∧ t.cbm.rxCons = 0 ∧ t.cbm.keyCons = 0 ∧
      t.cbm.flagsLo = s.cbm.flagsLo ||| 0x08 ∧ t.cbm.flagsHi = s.cbm.flagsHi ∧
      t.cbm.dirty = statusOffsets.filter (fun o => s.cbm.dirty.contains o || statusValue s o != statusValue t o) ∧
      LineReset t.lu ∧ t.lu.role = s.lu.role ∧ t.lu.rate = s.lu.rate ∧ t.lu.format = s.lu.format ∧
      t.lu.listenLimit = s.lu.listenLimit ∧ StreamReset t.su ∧ t.su.lostTotal = s.su.lostTotal ∧
      KeyReset s.env.now t.ks ∧ PrintReset t.ps ∧ StrobeReset t.sp ∧
      t.hm = { s.hm with pacing := none, halt := .none } ∧ t.sm = { s.sm with readingTimer := none } ∧
      StepReset t.pd ∧ t.pd.position = s.pd.position

/-- GUARD_CLOSE (R17): OK in every case outside standby, with the open page set to none.
The end of the event, `settle`, is the model's (logs 14, 15, 33).
What a host grant records of its wait is the model's (log 8). -/
def Sys2Proof.Claims.GuardCloseClosesThePage : Prop :=
  ∀ s : State, HostGoes s → s.cbm.slotBusy = false → s.cbm.standby = false →
    exec .guardClose s =
      .next (settle s (answered 0x01 ((taken 0x32 s).withMp { (countHost s).mp with openPage := none })))

/-- CLEAR_ALL (R35): as 0xFF written to both acknowledgement bytes, with the same re-latching and reports, answered OK. The exit
from ERROR_STOP is `idleWork`, pinned beside WAKE: that a hold taken there bars no fetch is the model's choice (log 19).
The end of the event, `settle`, is the model's (logs 14, 15, 33).
What a host grant records of its wait is the model's (log 8). -/
def Sys2Proof.Claims.ClearAllAcknowledgesEveryFlag : Prop :=
  ∀ s : State, HostGoes s → s.cbm.slotBusy = false → s.cbm.standby = false →
    let hot := s.ps.engine == .hotHalt && s.hotAt s.cbm.settings.stopTemp
    let standing : Byte := (if hot then 0x40 else 0) ||| (if supplyBelow 46 s then 0x80 else 0)
    let u := ((taken 0x40 s).withCbm
      { s.cbm with pendingCmd := none, flagsLo := 0, flagsHi := s.cbm.flagsHi &&& standing }).withMp
        { (countHost s).mp with guardHits := 0 }
    let v := if s.ps.engine = .errorStop then idleWork (u.withPs { s.ps with engine := .idle }) else u
    exec .clearAll s = .next (settle s (answered 0x01 (
      match v.hm.halt, v.ps.row with
      | .ackWait, some r =>
        if hot = true ∧ s.cbm.flagsHi.getLsbD 6 = true then v
        else if v.hotAt r.warn then v.withHm { v.hm with halt := .coolWait } else endHalt v
      | _, _ => v)))

/-- STANDBY (R40, R129): refused unless the line is OFF, the engine IDLE and the queue empty; on entry KS turns to the wake
scan with every position OPEN and its tables empty, and SM's timed readings stop.
The end of the event, `settle`, is the model's (logs 14, 15, 33).
What a host grant records of its wait is the model's (log 8). -/
def Sys2Proof.Claims.StandbyIsEntered : Prop :=
  ∀ s : State, HostGoes s → s.cbm.slotBusy = false → s.cbm.standby = false →
    let quiet := s.lu.lineState = .off ∧ s.ps.engine = .idle ∧ (s.cbm.geometry = none ∨ s.ps.fetchIndex = s.cbm.pqProd)
    (¬quiet → exec .standby s = .next (settle s (answered 0x03 (taken 0x50 s)))) ∧
    (quiet → exec .standby s = .next (settle s (answered 0x01
      ((((taken 0x50 s).withCbm { s.cbm with pendingCmd := none, standby := true }).withSm
        { s.sm with readingTimer := none }).withKs
          { s.ks with
            scanMode := .wake
            lastPass := s.env.now
            records := s.ks.records.map (fun r => { r with debounce := .opened })
            held := []
            shiftDown := false
            ctrlDown := false
            rep := none }))))

/-- WAKE (R41): OK; outside standby nothing more; in standby it ends standby: KS returns to the matrix scan, and LU, PS, SU and
KS act on the index shadows as they stand. The model's choices are that with the rings UNSET only PS looks at what waits (log 20),
what PS does there (`endStandbyPrint`, log 19), and that the first scan pass counts its 5 ms from the WAKE (log 29).
The end of the event, `settle`, is the model's (logs 14, 15, 33).
What a host grant records of its wait is the model's (log 8). -/
def Sys2Proof.Claims.WakeEndsStandby : Prop :=
  ∀ s : State, HostGoes s → s.cbm.slotBusy = false →
    let u := ((taken 0x51 s).withCbm { s.cbm with pendingCmd := none, standby := false }).withKs
      { s.ks with scanMode := .matrix, lastPass := s.env.now }
    (s.cbm.standby = false → exec .wake s = .next (settle s (answered 0x01 (taken 0x51 s)))) ∧
    (s.cbm.standby = true → s.cbm.geometry = none →
      exec .wake s = .next (settle s (answered 0x01 (endStandbyPrint u)))) ∧
    (s.cbm.standby = true → s.cbm.geometry.isSome = true →
      exec .wake s = .next (settle s (answered 0x01 (actOnKeyCons (actOnRxCons (endStandbyPrint (boundary u)))))))

/-- What PS does with what waits, once its engine has left ERROR_STOP or standby has ended (R154, R155, R41): a set hold request is
taken, waiting feeds run, and otherwise the engine needs the cache; a fetch whose conditions hold begins as well, which beside a
hold taken is the model's choice (log 19). Then the end of standby, by WAKE and by a wake pass alike: PS's part, and those of SU
(R100, R102) and KS (R123, R126); with the rings UNSET only PS's (log 20), and with the scan timer from this moment (log 29). -/
def Sys2Proof.Claims.WorkThatWaits : Prop :=
  (∀ s : State,
    let fetched := fun t : State =>
      if canFetch t then t.withPs { t.ps with
        cache := .fetching t.ps.fetchIndex [], fetchIndex := (t.ps.fetchIndex + 1) % t.geo Geometry.pqCap } else t
    (s.ps.holdRequest = true →
      idleWork s = fetched (cancelEffect (s.withPs { s.ps with engine := .held, heldPoint := .betweenRows }))) ∧
    (s.ps.holdRequest = false → 0 < s.ps.localFeeds → idleWork s = startLocalFeed (fetched s)) ∧
    (s.ps.holdRequest = false → s.ps.localFeeds = 0 → idleWork s = needCache s)) ∧
  (∀ s : State,
    let cap := s.geo Geometry.pqCap
    let t := if s.cbm.geometry.isSome then
        fetchWork (s.withPs { s.ps with
          woundBack := decide (ringDiff cap s.cbm.pqProd s.ps.consumer < ringDiff cap s.ps.fetchIndex s.ps.consumer) })
      else s
    (t.ps.engine = .idle ∨ t.ps.engine = .waitCache → endStandbyPrint s = idleWork t) ∧
    (t.ps.engine ≠ .idle → t.ps.engine ≠ .waitCache → endStandbyPrint s = t)) ∧
  (∀ s : State,
    let u := (s.withCbm { s.cbm with standby := false }).withKs { s.ks with scanMode := .matrix, lastPass := s.env.now }
    (s.cbm.geometry = none → endStandby s = endStandbyPrint u) ∧
    (s.cbm.geometry.isSome = true →
      endStandby s = actOnKeyCons (actOnRxCons (endStandbyPrint (boundary u))))) ∧
  (∀ s : State, actOnRxCons s = tryDeposit (evaluateFlow (s.withSu { s.su with consumerCopy := s.cbm.rxCons }))) ∧
  (∀ s : State, actOnKeyCons s = tryProcess (s.withKs { s.ks with consumerCopy := s.cbm.keyCons }))

/-! ## Statements made of the above -/

/-- The commands turned away before any rule of an owner: by a BUSY slot, in standby, and by an unknown code (R2, R5, R23, R25). -/
def Obligations.CommandsAreTurnedAway : Prop :=
  BusySlotDropsTheWrite ∧ StandbyAndUnknownAnswers

/-- DISCONNECT and SEND_BREAK, with the entry to OFF (R59, R60, R84, R87); what the entries to OFF that are no DISCONNECT leave of a character is log 22. -/
def Obligations.ConnectionEndsAndBreaks : Prop :=
  EntryToOff ∧ DisconnectEndsTheConnection ∧ SendBreakRequestsOrMerges

/-- PRINT_CANCEL and its effect (R151 to R153). When the limit is judged to lie ahead, and the fetch index where it does not, are the model's (log 18). -/
def Obligations.CancelEndsThePrinting : Prop :=
  CancelIsRecordedOrTakesEffect ∧ CancelEmptiesThePrinter

/-- Where rings may be placed, and the page sets of the guard table (R14, R15, R38). -/
def Obligations.RingsAndGuardsShareNoPage : Prop :=
  PlacementOfAreas ∧ GuardedPageSets

/-- GUARD_SET, GUARD_OPEN, GUARD_TIGHT and SOFT_RESET when taken (R15, R16, R18, R26), and the codes of the answers (section 2.9). -/
def Obligations.ConfirmableCommandsAreChecked : Prop :=
  AnswerCodes ∧ ConfirmableChecksInOrder ∧ ConfirmableCommandsAwaitConfirm

/-- CONFIRM of a guard command, and GUARD_CLOSE (R15 to R18, R27); what they report is log 14. -/
def Obligations.GuardCommandsExecute : Prop :=
  ConfirmExecutesTheRecord ∧ GuardCloseClosesThePage

/-- ACKNOWLEDGE and CLEAR_ALL (R8, R34, R35, R154, R178); reports by mask bit, log 27; the exit from ERROR_STOP, log 19. -/
def Obligations.FlagsAreAcknowledged : Prop :=
  AcknowledgementClearsFlags ∧ ClearAllAcknowledgesEveryFlag

/-- STANDBY and WAKE (R40, R41, R129), and the work that waits at the end of standby and of ERROR_STOP (R154, R155): the model's choices are logs 19, 20 and 29. -/
def Obligations.StandbyBeginsAndEnds : Prop :=
  StandbyIsEntered ∧ WakeEndsStandby ∧ WorkThatWaits

/-! ## The RAM port -/

/-- What each requester presents (R9, R24), and the arbiter's choice among the internal accesses (R11, R13): SU, LU, KS, PS,
CBM in this order, CBM first once its pass count is 16, none while the reset line is held. A part index waits while CBM still
owes its 0x00 (R24). -/
def Sys2Proof.Claims.ArbiterPrecedence : Prop :=
  ∀ s : State,
    (presents s .su = true ↔ s.su.deposit ≠ .none ∧
      (s.su.deposit = .indexWait → OwedWrite.partIndex .rxProd ∉ s.cbm.answers)) ∧
    (presents s .lu = true ↔ s.lu.ringFetch ≠ .none ∧
      (s.lu.ringFetch = .indexWait → OwedWrite.partIndex .txCons ∉ s.cbm.answers)) ∧
    (presents s .ks = true ↔ s.ks.proc ≠ .none ∧
      (s.ks.proc = .indexWait → OwedWrite.partIndex .keyProd ∉ s.cbm.answers)) ∧
    (presents s .ps = true ↔ s.ps.access ≠ none ∧
      (s.ps.access = some .indexWrite → OwedWrite.partIndex .pqCons ∉ s.cbm.answers)) ∧
    (presents s .cbm = true ↔ s.cbm.access ≠ none) ∧
    (s.mp.resetHeld = true → pick s = none) ∧
    (s.mp.resetHeld = false → presents s .cbm = true → 16 ≤ s.mp.passCount → pick s = some .cbm) ∧
    (s.mp.resetHeld = false → (presents s .cbm = false ∨ s.mp.passCount < 16) →
      (presents s .su = true → pick s = some .su) ∧
      (presents s .su = false → presents s .lu = true → pick s = some .lu) ∧
      (presents s .su = false → presents s .lu = false → presents s .ks = true → pick s = some .ks) ∧
      (presents s .su = false → presents s .lu = false → presents s .ks = false → presents s .ps = true →
        pick s = some .ps) ∧
      (presents s .su = false → presents s .lu = false → presents s .ks = false → presents s .ps = false →
        presents s .cbm = true → pick s = some .cbm) ∧
      (internalWaiting s = false → pick s = none))

/-- The arbiter's counts at a grant (R10, R11), judged by the accesses waiting in that slot. With a host grant the access's wait
ends, and whether the wait signal stood is shown (R10, log 8); nothing else changes with them. -/
def Sys2Proof.Claims.ArbiterCounts : Prop :=
  ∀ s : State,
    countInternal .cbm s = s.withMp { s.mp with hostRun := 0, passCount := 0 } ∧
    (∀ r, r ≠ Requester.cbm → countInternal r s = s.withMp { s.mp with
      hostRun := 0, passCount := if s.cbm.access.isSome then s.mp.passCount + 1 else 0 }) ∧
    countHost s = s.withMp { s.mp with
      hostRun := if internalWaiting s then s.mp.hostRun + 1 else 0
      passCount := if s.cbm.access.isSome then s.mp.passCount else 0
      hostWaiting := s.mp.hostWaiting.tail
      hostWaited := waitAsserted s }

/-- A grant row whose requester the arbiter does not choose, or whose kind of access is not the one presented (at CBM with an answer
presented, the kind of the answer queue's head), leaves the state (the model's choice, log 7). -/
def Obligations.GrantNotChosenDoesNothing : Prop :=
  ∀ s : State,
    (∀ (c : Instr) (r : Requester), (c, r) ∈ [(.statusWriteBackGrant, .cbm), (.partIndexClearGrant, .cbm),
      (.resultWriteBackGrant, .cbm), (.cmdClearGrant, .cbm), (.txRingReadGrant, .lu), (.txConsWriteGrant, .lu),
      (.streamByteGrant, .su), (.rxProdWriteGrant, .su), (.keymapReadGrant, .ks), (.keyEventByteGrant, .ks),
      (.keyProdWriteGrant, .ks), (.descriptorReadGrant, .ps), (.imageReadGrant, .ps),
      (.descriptorResultWriteGrant, .ps), (.pqConsWriteGrant, .ps)] →
      pick s ≠ some r → exec c s = .next s) ∧
    ((∀ o, s.cbm.access ≠ some (.status o)) → exec .statusWriteBackGrant s = .next s) ∧
    ((s.cbm.access ≠ some .answer ∨ ∀ i rest, s.cbm.answers ≠ .partIndex i :: rest) →
      exec .partIndexClearGrant s = .next s) ∧
    ((s.cbm.access ≠ some .answer ∨ ∀ v rest, s.cbm.answers ≠ .result v :: rest) →
      exec .resultWriteBackGrant s = .next s) ∧
    ((s.cbm.access ≠ some .answer ∨ ∀ rest, s.cbm.answers ≠ .clearCmd :: rest) →
      exec .cmdClearGrant s = .next s) ∧
    (s.lu.ringFetch ≠ .readWait → exec .txRingReadGrant s = .next s) ∧
    (s.lu.ringFetch ≠ .indexWait → exec .txConsWriteGrant s = .next s) ∧
    (s.su.deposit ≠ .byte0Wait → s.su.deposit ≠ .byte1Wait → exec .streamByteGrant s = .next s) ∧
    (s.su.deposit ≠ .indexWait → exec .rxProdWriteGrant s = .next s) ∧
    (s.ks.proc ≠ .lookupWait → exec .keymapReadGrant s = .next s) ∧
    ((∀ i, s.ks.proc ≠ .byteWait i) → exec .keyEventByteGrant s = .next s) ∧
    (s.ks.proc ≠ .indexWait → exec .keyProdWriteGrant s = .next s) ∧
    ((∀ a d, s.ps.access ≠ some (.descriptorRead a d)) → exec .descriptorReadGrant s = .next s) ∧
    ((∀ a d, s.ps.access ≠ some (.imageRead a d)) → exec .imageReadGrant s = .next s) ∧
    (s.ps.access ≠ some .resultWrite → exec .descriptorResultWriteGrant s = .next s) ∧
    (s.ps.access ≠ some .indexWrite → exec .pqConsWriteGrant s = .next s)

/-- CBM's grants (R24, R37): the head of the answer queue lands and leaves it, the slot turning FREE at the CMD clear; a status
write-back writes the byte current at the grant, and its offset leaves the dirty set.
The end of the event, `settle`, is the model's (logs 14, 15, 33). -/
def Obligations.ControlBlockWriteBacks : Prop :=
  ∀ s : State, pick s = some .cbm →
    (∀ o, s.cbm.access = some (.status o) →
      exec .statusWriteBackGrant s = .next (settle s
        ((writeByte (addrOf (s.base + o)) (statusByte s o) (countInternal .cbm s)).withCbm
          { s.cbm with dirty := s.cbm.dirty.filter (fun x => x != o), access := none }))) ∧
    (∀ i rest, s.cbm.access = some .answer → s.cbm.answers = .partIndex i :: rest →
      exec .partIndexClearGrant s = .next (settle s
        ((writeByte (addrOf (s.base + PartIndex.offset i)) 0x00 (countInternal .cbm s)).withCbm
          { s.cbm with answers := rest, access := none }))) ∧
    (∀ v rest, s.cbm.access = some .answer → s.cbm.answers = .result v :: rest →
      exec .resultWriteBackGrant s = .next (settle s
        ((writeByte (addrOf (s.base + 0x01)) v (countInternal .cbm s)).withCbm
          { s.cbm with answers := rest, access := none }))) ∧
    (∀ rest, s.cbm.access = some .answer → s.cbm.answers = .clearCmd :: rest →
      exec .cmdClearGrant s = .next (settle s
        ((writeByte (addrOf (s.base + 0x00)) 0x00 (countInternal .cbm s)).withCbm
          { s.cbm with answers := rest, access := none, slotBusy := false })))

/-- The bytes the status mirror writes (R20, R36, R37, section 2.8.1): the flags, SUMMARY, the line and print states, QUALITY,
SUPPLY, HEAD_TEMP, HOTTEST, the guard bytes with the low byte of a 16-bit value first, and the window records. The head
temperature the checks use is the reading held, 0 before the first (R169, R174); HOTTEST is the largest effective temperature
within 0..255 (R174). -/
def Obligations.StatusMirrorBytes : Prop :=
  ∀ s : State,
    statusByte s 0x1C = s.cbm.flagsLo ∧ statusByte s 0x1D = s.cbm.flagsHi ∧
    (let m := statusByte s 0x1E;
      m.getLsbD 0 = (s.cbm.flagsLo.getLsbD 0 || s.cbm.flagsLo.getLsbD 1 || s.cbm.flagsLo.getLsbD 2) ∧
      m.getLsbD 1 = (s.cbm.flagsLo.getLsbD 4 || s.cbm.flagsLo.getLsbD 5 || s.cbm.flagsLo.getLsbD 6) ∧
      m.getLsbD 2 = (s.cbm.flagsHi.getLsbD 0 || s.cbm.flagsHi.getLsbD 1 || s.cbm.flagsHi.getLsbD 2
        || s.cbm.flagsHi.getLsbD 3 || s.cbm.flagsHi.getLsbD 4) ∧
      m.getLsbD 3 = (s.cbm.flagsLo.getLsbD 7 || s.cbm.flagsHi.getLsbD 5 || s.cbm.flagsHi.getLsbD 6
        || s.cbm.flagsHi.getLsbD 7) ∧
      m.getLsbD 4 = s.cbm.flagsLo.getLsbD 3 ∧
      m.getLsbD 5 = (s.cbm.flagsLo != 0 || s.cbm.flagsHi != 0) ∧
      m.getLsbD 6 = (s.lu.lineState == .online) ∧ m.getLsbD 7 = (s.ps.engine != .idle)) ∧
    statusByte s 0x1F = (match s.lu.lineState with
      | .off => 0 | .listen => 1 | .qualify => 2 | .integrate _ => 3 | .online => 4 | .fade => 5) ∧
    statusByte s 0x20 = (match s.ps.engine with
      | .idle => 0 | .waitCache => 1 | .coolPace => 2 | .burn => 3 | .stepWait => 4 | .step => 5 | .held => 6
      | .hotHalt => 7 | .batteryHold => 8 | .errorStop => 9) ∧
    statusByte s 0x21 = byteOf s.lu.qs ∧
    statusByte s 0x22 = (match s.sm.supply with | some v => byteOf v | none => 0) ∧
    statusByte s 0x23 = (match s.sm.headTemp with | some t => BitVec.ofInt 8 t | none => 0) ∧
    statusByte s 0x24 = byteOf s.hottest ∧
    s.headTemp = (match s.sm.headTemp with | some t => t | none => 0) ∧
    (∀ h ∈ s.hm.estimates, max 0 (min 255 (s.headTemp + (h / 16 : Nat))) ≤ (s.hottest : Int)) ∧
    (s.hottest = 0 ∨ ∃ h ∈ s.hm.estimates, (s.hottest : Int) = max 0 (min 255 (s.headTemp + (h / 16 : Nat)))) ∧
    statusByte s 0x25 = byteOf s.mp.guardHits ∧
    (statusByte s 0x26).toNat = s.mp.guardFirst.toNat % 256 ∧ (statusByte s 0x27).toNat = s.mp.guardFirst.toNat / 256 ∧
    (statusByte s 0x28).toNat = s.su.lostTotal % 256 ∧ (statusByte s 0x29).toNat = s.su.lostTotal / 256 % 256 ∧
    statusByte s 0x2A = (match s.mp.openPage with | some p => byteOf p | none => 0xFF) ∧
    statusByte s 0x2B = (if s.mp.tight then 0x01 else 0x00) ∧
    (∀ i, i < 4 → ∀ w, s.mp.windows[i]? = some w →
      statusByte s (0x30 + 3 * i) = (if w.enabled then 0x01 else 0x00) ||| (if w.invert then 0x02 else 0x00) ∧
      statusByte s (0x31 + 3 * i) = byteOf w.lower ∧ statusByte s (0x32 + 3 * i) = byteOf w.upper)

/-- LU's grants (R89): a ring read with the ring still holding a character and the line ONLINE starts its operation and is
followed by the TX_CONS write; otherwise the fetch is abandoned, which is a boundary; the TX_CONS write advances the consumer and
is a boundary.
The end of the event, `settle`, is the model's (logs 14, 15, 33). -/
def Sys2Proof.Claims.TransmitRingGrants : Prop :=
  ∀ s : State, pick s = some .lu →
    (s.lu.ringFetch = .readWait → s.lu.lineState = .online → s.cbm.txProd ≠ s.lu.txCons →
      exec .txRingReadGrant s = .next (settle s ((countInternal .lu s).withLu
        { s.lu with
          ringFetch := .indexWait
          txOp := some (.character (Memory.read s.mem (addrOf (s.geo Geometry.txBase * 256 + s.lu.txCons)).toNat)
            s.lu.rate s.lu.format s.env.now) }))) ∧
    (s.lu.ringFetch = .readWait → (s.lu.lineState ≠ .online ∨ s.cbm.txProd = s.lu.txCons) →
      exec .txRingReadGrant s =
        .next (settle s (boundary ((countInternal .lu s).withLu { s.lu with ringFetch := .none })))) ∧
    (s.lu.ringFetch = .indexWait →
      exec .txConsWriteGrant s =
        let next := (s.lu.txCons + 1) % s.geo Geometry.txCap
        .next (settle s (boundary
          ((writeByte (addrOf (s.base + 0x18)) (byteOf next) (countInternal .lu s)).withLu
            { s.lu with txCons := next, ringFetch := .none }))))

/-- SU's grants (R101, R98, R105): the two bytes of the head entry go to the slot at the producer, low byte first; the RX_PROD
write advances the producer and frees the staging slot, places a waiting LOST marker, evaluates the own flow and begins the next
deposit.
The end of the event, `settle`, is the model's (logs 14, 15, 33). -/
def Sys2Proof.Claims.StreamDepositGrants : Prop :=
  ∀ s : State, pick s = some .su →
    (∀ e rest, s.su.deposit = .byte0Wait → s.su.staging = e :: rest →
      exec .streamByteGrant s = .next (settle s
        ((writeByte (addrOf (s.geo Geometry.rxBase * 256 + 2 * s.su.producer)) e.byte0 (countInternal .su s)).withSu
          { s.su with deposit := .byte1Wait }))) ∧
    (∀ e rest, s.su.deposit = .byte1Wait → s.su.staging = e :: rest →
      exec .streamByteGrant s = .next (settle s
        ((writeByte (addrOf (s.geo Geometry.rxBase * 256 + 2 * s.su.producer + 1)) e.byte1 (countInternal .su s)).withSu
          { s.su with deposit := .indexWait }))) ∧
    (s.su.deposit = .indexWait →
      exec .rxProdWriteGrant s =
        let next := (s.su.producer + 1) % s.geo Geometry.rxCap
        .next (settle s (tryDeposit (evaluateFlow (placeLost
          ((writeByte (addrOf (s.base + 0x1A)) (byteOf next) (countInternal .su s)).withSu
            { s.su with producer := next, staging := s.su.staging.drop 1, deposit := .none }))))))

/-- The two bytes of a stream entry, the four of a key event, and the nine row bytes of a segment (sections 2.8.2, 2.8.3, R94, R125,
R138). -/
def Sys2Proof.Claims.EntryFormats : Prop :=
  (∀ (c : Byte) (p f w : Bool), (Entry.line c p f w).byte0 = c ∧ (Entry.line c p f w).byte1 =
    (if p then 0x01 else 0) ||| (if f then 0x02 else 0) ||| (if w then 0x04 else 0)) ∧
  (∀ c : Byte, (Entry.echo c).byte0 = c ∧ (Entry.echo c).byte1 = 0x40) ∧
  (∀ n : Nat, (Entry.mark .carrierUp n).byte1 = 0x81 ∧ (Entry.mark .carrierDown n).byte1 = 0x82 ∧
    (Entry.mark .breakIn n).byte1 = 0x83 ∧ (Entry.mark .lost n).byte1 = 0x84 ∧ (Entry.mark .holdExpired n).byte1 = 0x85 ∧
    ∀ m, (Entry.mark m n).byte0 = byteOf n) ∧
  (∀ e : KeyEvent, e.shift < 4 →
    e.byte 0 = byteOf e.code ∧
    e.byte 1 = (match e.kind with | .press => 0x00 | .repeated => 0x01 | .release => 0x02 | .wakePress => 0x03)
      ||| (if e.shift % 2 = 1 then 0x04 else 0) ||| (if 2 ≤ e.shift then 0x08 else 0) ∧
    (∀ v, e.mapped = some v → e.byte 2 = v) ∧ e.byte 3 = byteOf e.lostBefore) ∧
  (∀ (image : Image) (i k : Nat), image.length = 72 → i < 8 → k < 9 →
    (segmentBytes image i).length = 9 ∧ (segmentBytes image i).getD k 0 = image.getD (9 * i + k) 0)

/-- KS's grants (R124, R125): the keymap byte of an event becomes its mapped value, is left with the record of a PRESS or
WAKE_PRESS (KNOWN, with the held-key entry, unless the press is no longer PENDING or a later press of the code waits in the
FIFO), and is acted on in DIRECT mode (R127); the four bytes go to the slot at the producer; the KEY_PROD write advances it and
takes the event off the FIFO, and the next may begin.
The end of the event, `settle`, is the model's (logs 14, 15, 33). -/
def Obligations.KeyEventGrants : Prop :=
  ∀ s : State, pick s = some .ks →
    (∀ e later, s.ks.proc = .lookupWait → s.ks.fifo = e :: later →
      let v := Memory.read s.mem (addrOf (s.geo Geometry.keymapBase * 256 + 80 * e.shift + e.code)).toNat
      let r := s.ks.records.getD e.code clearRecord
      let known := r.press = .pending ∧ ∀ l ∈ later, ¬(l.code = e.code ∧ (l.kind = .press ∨ l.kind = .wakePress))
      let u := countInternal .ks s
      let w :=
        if e.kind = .press ∨ e.kind = .wakePress then u.withKs { s.ks with
          records := s.ks.records.set e.code
            { r with value := v, press := if known then .known else r.press }
          held := if known then
              s.ks.held.map (fun h => if h.code = e.code then { h with value := some v } else h)
            else s.ks.held }
        else u
      e.code < s.ks.records.length →
      exec .keymapReadGrant s = .next (settle s (beginDeposit v
        (if s.cbm.settings.direct = true ∧ (e.kind = .press ∨ e.kind = .repeated) ∧ e.code ≠ 78 ∧ e.code ≠ 79 then
          directAction v w
        else w)))) ∧
    (∀ v : Byte, ∀ t : State, ∀ e later, t.ks.fifo = e :: later → beginDeposit v t =
      t.withKs { t.ks with fifo := { e with mapped := some v } :: later, proc := .byteWait 0 }) ∧
    (∀ i e later, s.ks.proc = .byteWait i → i < 4 → s.ks.fifo = e :: later →
      exec .keyEventByteGrant s = .next (settle s
        ((writeByte (addrOf (s.geo Geometry.keyBase * 256 + 4 * s.ks.producer + i)) (e.byte i)
          (countInternal .ks s)).withKs
            { s.ks with proc := if i = 3 then .indexWait else .byteWait (i + 1) }))) ∧
    (s.ks.proc = .indexWait →
      exec .keyProdWriteGrant s =
        let next := (s.ks.producer + 1) % s.geo Geometry.keyCap
        .next (settle s (tryProcess
          ((writeByte (addrOf (s.base + 0x1B)) (byteOf next) (countInternal .ks s)).withKs
            { s.ks with producer := next, fifo := s.ks.fifo.drop 1, proc := .none }))))

/-- The fetch reads of PS (R136, R137, R153): a descriptor byte joins those read, and the eighth is judged; an image byte takes
its place from the start offset on, past byte 71 back to byte 0, and the last makes the cache READY; a discarded read changes
nothing but the access.
The end of the event, `settle`, is the model's (logs 14, 15, 33). -/
def Sys2Proof.Claims.FetchReads : Prop :=
  ∀ (s : State) (a : Addr), pick s = some .ps →
    let u := countInternal .ps s
    let v := Memory.read s.mem a.toNat
    (s.ps.access = some (.descriptorRead a true) →
      exec .descriptorReadGrant s = .next (settle s (u.withPs { s.ps with access := none }))) ∧
    (∀ p bytes, s.ps.access = some (.descriptorRead a false) → s.ps.cache = .fetching p bytes → bytes.length < 7 →
      exec .descriptorReadGrant s =
        .next (settle s (u.withPs { s.ps with access := none, cache := .fetching p (bytes ++ [v]) }))) ∧
    (∀ p bytes, s.ps.access = some (.descriptorRead a false) → s.ps.cache = .fetching p bytes → bytes.length = 7 →
      exec .descriptorReadGrant s = .next (settle s (cacheChanged (u.withPs
        { s.ps with
          access := none
          cache := match judgeDescriptor (bytes ++ [v]) with
            | none => .bad p
            | some d =>
              if d.kind = .dots ∧ d.length ≠ 0 then .loading p d (List.replicate 72 0) 0
              else .ready p d (List.replicate 72 0) })))) ∧
    (s.ps.access = some (.imageRead a true) →
      exec .imageReadGrant s = .next (settle s (u.withPs { s.ps with access := none }))) ∧
    (∀ p d image k, s.ps.access = some (.imageRead a false) → s.ps.cache = .loading p d image k → k + 1 < d.length →
      exec .imageReadGrant s = .next (settle s (u.withPs
        { s.ps with access := none, cache := .loading p d (image.set ((d.startOffset + k) % 72) v) (k + 1) }))) ∧
    (∀ p d image k, s.ps.access = some (.imageRead a false) → s.ps.cache = .loading p d image k → d.length ≤ k + 1 →
      exec .imageReadGrant s = .next (settle s (cacheChanged (u.withPs
        { s.ps with access := none, cache := .ready p d (image.set ((d.startOffset + k) % 72) v) }))))

/-- The judgement of a descriptor (R133, R134): an unknown kind, or a DOTS descriptor with an image outside RAM or a start
offset above 71, is BAD_DESC; a row count of 0 is 1, and a darkness byte other than 0 to 7 and 0x0F is 7. -/
def Sys2Proof.Claims.DescriptorJudgement : Prop :=
  ∀ b0 b1 b2 b3 b4 b5 b6 b7 : Byte,
    let addr := b2.toNat + 256 * b3.toNat
    let fields := fun k : PrintKind => ({
      kind := k, rows := if b1 = 0 then 1 else b1.toNat, imageAddr := addr, length := b4.toNat
      startOffset := b5.toNat
      darkness := if b6.toNat ≤ 7 then some b6.toNat else if b6 = 0x0F then none else some 7 } : Descriptor)
    let judged := judgeDescriptor [b0, b1, b2, b3, b4, b5, b6, b7]
    (b0 ≠ 1 → b0 ≠ 2 → b0 ≠ 3 → judged = none) ∧
    (b0 = 1 → (0x8000 ≤ addr ∨ (1 ≤ b4.toNat ∧ 0x8000 ≤ addr + b4.toNat - 1) ∨ 72 ≤ b5.toNat) → judged = none) ∧
    (b0 = 1 → addr < 0x8000 → (b4.toNat = 0 ∨ addr + b4.toNat - 1 < 0x8000) → b5.toNat ≤ 71 →
      judged = some (fields .dots)) ∧
    (b0 = 2 → judged = some (fields .feed)) ∧
    (b0 = 3 → judged = some (fields .again))

/-- The completion write-backs of PS (R135): the result byte of the first record, then PQ_CONS past its position, which takes
the record off the list, and begins a fetch where the consumer's advance leaves a descriptor waiting (R136, R140).
The end of the event, `settle`, is the model's (logs 14, 15, 33). -/
def Sys2Proof.Claims.CompletionWriteBacks : Prop :=
  ∀ (s : State) (c : Completion) (rest : List Completion), pick s = some .ps → s.ps.completion = c :: rest →
    (s.ps.access = some .resultWrite →
      exec .descriptorResultWriteGrant s = .next (settle s
        ((writeByte (addrOf (s.geo Geometry.pqBase * 256 + 8 * c.position + 7))
          (match c.result with | .done => 0x01 | .cancelled => 0x02 | .badDesc => 0x03) (countInternal .ps s)).withPs
            { s.ps with access := some .indexWrite }))) ∧
    (s.ps.access = some .indexWrite →
      exec .pqConsWriteGrant s =
        let next := (c.position + 1) % s.geo Geometry.pqCap
        .next (settle s (fetchWork
          ((writeByte (addrOf (s.base + 0x19)) (byteOf next) (countInternal .ps s)).withPs
            { s.ps with consumer := next, completion := rest, access := none }))))

/-- The access PS presents once it has none (R135 to R137): the result write of the completion list's first record; else the
next read of the descriptor at the cache's position, or of the image; with the rings UNSET, or with nothing owed, none. -/
def Sys2Proof.Claims.PrintAccessChosen : Prop :=
  (∀ s : State, s.cbm.geometry = none → nextPsAccess s = none) ∧
  (∀ s : State, s.cbm.geometry.isSome = true → s.ps.completion ≠ [] → nextPsAccess s = some .resultWrite) ∧
  (∀ (s : State) (g : Geometry), s.cbm.geometry = some g → s.ps.completion = [] →
    (∀ p bytes, s.ps.cache = .fetching p bytes → nextPsAccess s =
      some (.descriptorRead (addrOf (g.pqBase.toNat * 256 + 8 * p + bytes.length)) false)) ∧
    (∀ p d image k, s.ps.cache = .loading p d image k → nextPsAccess s =
      some (.imageRead (addrOf (d.imageAddr + k)) false)) ∧
    ((∀ p bytes, s.ps.cache ≠ .fetching p bytes) → (∀ p d image k, s.ps.cache ≠ .loading p d image k) →
      nextPsAccess s = none))

/-! ## Statements made of the above -/

/-- The RAM port's arbiter (R9 to R11, R13, R24); what a host grant records of its wait is the model's (log 8). -/
def Obligations.ArbiterChoosesAndCounts : Prop :=
  ArbiterPrecedence ∧ ArbiterCounts

/-- LU's and SU's grants (R89, R98, R100, R101, R105). -/
def Obligations.RingAndStreamGrants : Prop :=
  TransmitRingGrants ∧ StreamDepositGrants

/-- PS's accesses and their grants (R133 to R137, R153). -/
def Obligations.PrintQueueGrants : Prop :=
  PrintAccessChosen ∧ FetchReads ∧ DescriptorJudgement ∧ CompletionWriteBacks

/-! ## The coupler line -/

/-- CARRIER_PRESENT (R46, R50, R57): in LISTEN the line enters QUALIFY with its timer from 0; in FADE it enters INTEGRATE AGAIN
with an empty run; in every other state only the condition changes (R47). A stopped demodulator, or a carrier already present,
gives no event (log 6).
The end of the event, `settle`, is the model's (logs 14, 15, 33). -/
def Sys2Proof.Claims.CarrierPresentMovesTheLine : Prop :=
  ∀ s : State,
    ((s.lu.demod = false ∨ s.lu.carrier = true) → exec .carrierPresent s = .next s) ∧
    (s.lu.demod = true → s.lu.carrier = false →
      (s.lu.lineState = .listen → exec .carrierPresent s = .next (settle s (s.withLu
        { s.lu with carrier := true, lineState := .qualify, qualifyTimer := some s.env.now }))) ∧
      (s.lu.lineState = .fade → exec .carrierPresent s = .next (settle s (s.withLu
        { s.lu with carrier := true, lineState := .integrate .again, integRun := ⟨0, 15⟩ }))) ∧
      (s.lu.lineState ≠ .listen → s.lu.lineState ≠ .fade →
        exec .carrierPresent s = .next (settle s (s.withLu { s.lu with carrier := true }))))

/-- CARRIER_ABSENT (R46, R51, R54, R56, R57): QUALIFY and INTEGRATE FIRST fall back to LISTEN, INTEGRATE AGAIN to FADE with the
loss-hold timer from 0, and ONLINE to FADE, where a frame or a break candidate in progress is handed to SU as a lost entry and a
break being sent is cut; in every other state only the condition changes (R47). A stopped demodulator, or a carrier already
absent, gives no event (log 6).
The end of the event, `settle`, is the model's (logs 14, 15, 33). -/
def Sys2Proof.Claims.CarrierAbsentMovesTheLine : Prop :=
  ∀ s : State,
    ((s.lu.demod = false ∨ s.lu.carrier = false) → exec .carrierAbsent s = .next s) ∧
    (s.lu.demod = true → s.lu.carrier = true →
      (s.lu.lineState = .qualify → exec .carrierAbsent s = .next (settle s (s.withLu
        { s.lu with carrier := false, lineState := .listen, qualifyTimer := none }))) ∧
      (s.lu.lineState = .integrate .first → exec .carrierAbsent s = .next (settle s (s.withLu
        { s.lu with
          carrier := false, lineState := .listen, integRun := ⟨0, 15⟩
          txRest := if s.lu.role = .originate then .silent else .mark }))) ∧
      (s.lu.lineState = .integrate .again → exec .carrierAbsent s = .next (settle s (s.withLu
        { s.lu with
          carrier := false, lineState := .fade, lossHold := some ⟨s.env.now, s.cbm.settings.lossHold⟩ }))) ∧
      (s.lu.lineState = .online →
        let u := s.withLu { s.lu with
          carrier := false, lineState := .fade, lossHold := some ⟨s.env.now, s.cbm.settings.lossHold⟩
          receiver := .idle, idleMark := false, idleRun := ⟨0, 15⟩, txRest := .mark
          breakReq := match s.lu.txOp with | some (.breakSpace _) => false | _ => s.lu.breakReq
          txOp := match s.lu.txOp with
            | some (.character c r f t) => some (.character c r f t)
            | _ => none }
        exec .carrierAbsent s = .next (settle s (match s.lu.receiver with
          | .frame _ => arriveLost u
          | .candidate _ => arriveLost u
          | _ => u))) ∧
      ((s.lu.lineState = .off ∨ s.lu.lineState = .listen ∨ s.lu.lineState = .fade) →
        exec .carrierAbsent s = .next (settle s (s.withLu { s.lu with carrier := false }))))

/-- QUALIFY_EXPIRY, LISTEN_EXPIRY, LOSS_HOLD_EXPIRY (R51, R55, R58): at 200 ms the line enters INTEGRATE FIRST with an empty
run and the transmitter at MARK; at the sampled listen limit it enters OFF with CONNECT_TIMEOUT; at the limit the loss-hold
timer was started with it enters OFF with CARRIER_DOWN and the marker CARRIER_DOWN with argument 0. A stopped timer expires
nothing (log 6). That a character under way completes at the two entries to OFF, LISTEN_EXPIRY and LOSS_HOLD_EXPIRY, as it does at
DISCONNECT (`enterOff`), is the model's choice (log 22).
The clock at an expiry is the moment the timer was due, or the present one if later (log 5).
The end of the event, `settle`, is the model's (logs 14, 15, 33).
The clock and the tone's phase at a due moment are the model's (logs 5, 34). -/
def Sys2Proof.Claims.LineTimersExpire : Prop :=
  ∀ s : State,
    (∀ start, s.lu.qualifyTimer = some start →
      exec .qualifyExpiry s = .next (settle s ((atTime (start + 200000) s).withLu
        { s.lu with lineState := .integrate .first, integRun := ⟨0, 15⟩, qualifyTimer := none, txRest := .mark }))) ∧
    (∀ start, s.lu.listenTimer = some start →
      exec .listenExpiry s = .next (settle s ((enterOff (atTime (start + s.lu.listenLimit * 1000000) s)).withCbm
        { s.cbm with flagsHi := s.cbm.flagsHi ||| 0x01 }))) ∧
    (∀ start limit, s.lu.lossHold = some ⟨start, limit⟩ →
      exec .lossHoldExpiry s = .next (settle s (arrive (.mark .carrierDown 0)
        ((enterOff (atTime (start + limit * 100000) s)).withCbm
          { s.cbm with flagsHi := s.cbm.flagsHi ||| 0x02 })))) ∧
    (s.lu.qualifyTimer = none → exec .qualifyExpiry s = .next s) ∧
    (s.lu.listenTimer = none → exec .listenExpiry s = .next s) ∧
    (s.lu.lossHold = none → exec .lossHoldExpiry s = .next s)

/-- A bit decision in INTEGRATE (R45, R52, R53): a space empties the run; a mark counts with the lowest margin; the tenth enters
ONLINE, by BIT_DECISION and by INTEGRATION_COMPLETE alike (log 12). Decisions in OFF, LISTEN, QUALIFY and FADE, and those of a
stopped demodulator, change nothing. In every state a decision with margin 0, a tie, is a mark, whichever tone the row names
(R45, log 13).
The end of the event, `settle`, is the model's (logs 14, 15, 33). -/
def Sys2Proof.Claims.IntegrationCountsTenMarks : Prop :=
  ∀ (s : State) (m : Fin 16),
    let run : MarkRun := ⟨s.lu.integRun.count + 1, min s.lu.integRun.lowest m.val⟩
    (∀ k, s.lu.demod = true → s.lu.lineState = .integrate k →
      (0 < m.val → exec (.bitDecision .space m) s = .next (settle s (s.withLu { s.lu with integRun := ⟨0, 15⟩ }))) ∧
      (s.lu.integRun.count < 9 →
        exec (.bitDecision .mark m) s = .next (settle s (s.withLu { s.lu with integRun := run })) ∧
        exec (.integrationComplete m) s = .next s) ∧
      (s.lu.integRun.count = 9 → ∀ c ∈ [Instr.bitDecision .mark m, .integrationComplete m],
        exec c s = .next (settle s (enterOnline (s.withLu { s.lu with integRun := run }))))) ∧
    (∀ d, s.lu.demod = true → s.lu.lineState ∈ [.off, .listen, .qualify, .fade] →
      exec (.bitDecision d m) s = .next (settle s s)) ∧
    (∀ d, s.lu.demod = false → exec (.bitDecision d m) s = .next s) ∧
    exec (.bitDecision .space 0) s = exec (.bitDecision .mark 0) s ∧
    exec (.frameComplete .space 0) s = exec (.frameComplete .mark 0) s

/-- Entry to ONLINE (R53, R64, R77, R109): Qs becomes 16 times the lowest margin, quiet mode is evaluated, the listen and
loss-hold timers stop, the receiver hunts with the idle-mark indicator set, the transmitter is at MARK, and CARRIER_UP goes to SU
with argument 1 if the connection had reached ONLINE before; then the own flow is evaluated and the first boundary comes, in
either order where the order matters (R109; the choice is an input or a free value, log 11). -/
def Obligations.EntryToOnline : Prop :=
  (∀ s : State,
    enterOnline s = onlineBoundary (arrive (.mark .carrierUp (if s.lu.onlineReached then 1 else 0))
      (evaluateQuiet (s.withLu { s.lu with
        lineState := .online, qs := 16 * s.lu.integRun.lowest, listenTimer := none, lossHold := none
        onlineReached := true, idleRun := ⟨0, 15⟩, receiver := .hunt, idleMark := true, txRest := .mark })))) ∧
  (∀ s : State, (atBoundary s = false ∨ ownFlowNext s = s.su.ownFlow) →
    onlineBoundary s = boundary (evaluateFlow s)) ∧
  (∀ s : State, atBoundary s = true → ownFlowNext s ≠ s.su.ownFlow →
    (∀ first rest, s.env.orderIn = first :: rest →
      onlineBoundary s =
        let u := s.withEnv { s.env with orderIn := rest }
        if first then evaluateFlow (boundary u) else boundary (evaluateFlow u)) ∧
    (s.env.orderIn = [] →
      let u := s.withEnv { s.env with orderUsed := s.env.orderUsed + 1 }
      onlineBoundary s = evaluateFlow (boundary u) ∨ onlineBoundary s = boundary (evaluateFlow u)))

/-- A Qs update (R62): Qs loses its quarter, rounded down, and gains 4 times the margin. -/
def Sys2Proof.Claims.QualityUpdate : Prop :=
  ∀ (m : Nat) (s : State),
    updateQs m s = evaluateQuiet (s.withLu { s.lu with qs := s.lu.qs - s.lu.qs / 4 + 4 * m }) ∧
    (s.lu.qs ≤ 240 → m ≤ 15 → (updateQs m s).lu.qs ≤ 240)

/-- Quiet mode against its two shadows (R64): it turns on below QUIET_ENTER, with QUIET_SEEN, and off at QUIET_EXIT or above. -/
def Sys2Proof.Claims.QuietModeEvaluation : Prop :=
  ∀ s : State,
    (s.lu.quiet = false → s.lu.qs < s.cbm.settings.quietEnter →
      evaluateQuiet s = (s.withLu { s.lu with quiet := true }).withCbm
        { s.cbm with flagsHi := s.cbm.flagsHi ||| 0x10 }) ∧
    (s.lu.quiet = false → s.cbm.settings.quietEnter ≤ s.lu.qs → evaluateQuiet s = s) ∧
    (s.lu.quiet = true → s.cbm.settings.quietExit ≤ s.lu.qs →
      evaluateQuiet s = s.withLu { s.lu with quiet := false }) ∧
    (s.lu.quiet = true → s.lu.qs < s.cbm.settings.quietExit → evaluateQuiet s = s)

/-- START_EDGE and the decisions in HUNT, VERIFY and BREAK (R63, R70, R76, R77): an edge in HUNT enters VERIFY; a space there
validates the start and a mark is a false start; outside a frame a mark sets the idle-mark indicator and counts in the idle run,
whose tenth updates Qs, and a space (a decision with a margin above 0, R45) clears both.
IDLE_MARK_DECISION, IDLE_RUN_COMPLETE and BREAK_END are the same decisions (log 12).
The mark of a false start counts in the run it empties (log 16). A row whose own condition fails leaves the state (log 6).
The end of the event, `settle`, is the model's (logs 14, 15, 33). -/
def Obligations.ReceiverOutsideFrames : Prop :=
  ∀ (s : State) (m : Fin 16), s.lu.demod = true → s.lu.lineState = .online →
    let counted : MarkRun := ⟨s.lu.idleRun.count + 1, min s.lu.idleRun.lowest m.val⟩
    (s.lu.receiver = .hunt →
      exec .startEdge s = .next (settle s (s.withLu { s.lu with receiver := .verify, idleMark := false }))) ∧
    (s.lu.receiver ≠ .hunt → exec .startEdge s = .next s) ∧
    (s.lu.receiver = .verify →
      (0 < m.val → exec (.bitDecision .space m) s = .next (settle s (s.withLu
        { s.lu with receiver := .frame ⟨[], 15, s.pd.stepState == .stepping⟩, idleRun := ⟨0, 15⟩ }))) ∧
      ∀ c ∈ [Instr.bitDecision .mark m, .idleMarkDecision m],
        exec c s = .next (settle s (s.withLu
          { s.lu with receiver := .hunt, idleMark := true, idleRun := ⟨1, m.val⟩ }))) ∧
    (s.lu.receiver = .hunt ∨ s.lu.receiver = .brk →
      (0 < m.val → exec (.bitDecision .space m) s =
        .next (settle s (s.withLu { s.lu with idleMark := false, idleRun := ⟨0, 15⟩ }))) ∧
      (∀ c ∈ [Instr.bitDecision .mark m, .idleMarkDecision m], s.lu.idleRun.count + 1 ≠ 10 →
        exec c s = .next (settle s (s.withLu
          { s.lu with receiver := .hunt, idleMark := true, idleRun := counted }))) ∧
      (∀ c ∈ [Instr.bitDecision .mark m, .idleMarkDecision m, .idleRunComplete m], s.lu.idleRun.count = 9 →
        exec c s = .next (settle s (updateQs counted.lowest (s.withLu
          { s.lu with receiver := .hunt, idleMark := true, idleRun := ⟨0, 15⟩ }))))) ∧
    (s.lu.receiver = .brk → s.lu.idleRun.count ≠ 9 →
      exec (.breakEnd m) s = .next (settle s (s.withLu
        { s.lu with receiver := .hunt, idleMark := true, idleRun := counted }))) ∧
    (s.lu.receiver = .brk → s.lu.idleRun.count = 9 →
      exec (.breakEnd m) s = .next (settle s (updateQs counted.lowest (s.withLu
        { s.lu with receiver := .hunt, idleMark := true, idleRun := ⟨0, 15⟩ })))) ∧
    (s.lu.receiver ≠ .brk → exec (.breakEnd m) s = .next s)

/-- A decision in FRAME before the last stop-bit sample joins the frame record with the lowest margin, a tie as mark (R45, R71).
The end of the event, `settle`, is the model's (logs 14, 15, 33). -/
def Sys2Proof.Claims.FrameCollectsDecisions : Prop :=
  ∀ (s : State) (d : Decision) (m : Fin 16) (r : FrameRecord), s.lu.demod = true → s.lu.lineState = .online →
    s.lu.receiver = .frame r → r.bits.length + 2 < s.lu.format.length →
    exec (.bitDecision d m) s = .next (settle s (s.withLu
      { s.lu with receiver := .frame ⟨r.bits ++ [d == .mark || m.val == 0], min r.lowest m.val, r.overlap⟩ })) ∧
    exec (.frameComplete d m) s = .next s

/-- FRAME_COMPLETE (R45, R62, R72 to R74, R78, R79), and BIT_DECISION at the last stop-bit sample: Qs is updated first; all data
decisions space with a space stop bit make a break candidate; otherwise the receiver hunts again, and a frame without errors
whose byte is recognised as flow is consumed, and any other goes to SU as a LINE entry with its flags.
BIT_DECISION and FRAME_COMPLETE name the same decision (log 12).
The end of the event, `settle`, is the model's (logs 14, 15, 33). -/
def Sys2Proof.Claims.FrameCompletes : Prop :=
  ∀ (s : State) (d : Decision) (m : Fin 16) (r : FrameRecord), s.lu.demod = true → s.lu.lineState = .online →
    s.lu.receiver = .frame r → r.bits.length + 2 = s.lu.format.length →
    let f := s.lu.format
    let bits := r.bits ++ [d == .mark || m.val == 0]
    let low := min r.lowest m.val
    let data := bits.take f.dataBits
    let parity := parityError f bits
    let framing := framingError f bits
    let weak := decide (low < s.cbm.settings.weakMargin) || r.overlap
    let u := updateQs low s
    let h := u.withLu { u.lu with receiver := .hunt }
    let char := byteOf (charValue data)
    let flow := flowChar s.cbm.settings s.lu.remoteHold char
    ∀ c ∈ [Instr.bitDecision d m, .frameComplete d m],
      (data.all (fun b => !b) = true → framing = true →
        exec c s = .next (settle s (u.withLu
          { u.lu with receiver := .candidate ⟨parity, framing, weak, f.length⟩ }))) ∧
      ((data.all (fun b => !b) = false ∨ framing = false) →
        ((parity = true ∨ framing = true ∨ flow = .none) →
          exec c s = .next (settle s (arrive (.line char parity framing weak) h))) ∧
        (parity = false → framing = false → flow = .xoff →
          exec c s = .next (settle s (h.withLu { h.lu with remoteHold := true, holdTimer := some s.env.now }))) ∧
        (parity = false → framing = false → flow = .xon → s.lu.remoteHold = true →
          exec c s = .next (settle s (boundary (h.withLu { h.lu with remoteHold := false, holdTimer := none })))) ∧
        (parity = false → framing = false → flow = .xon → s.lu.remoteHold = false →
          exec c s = .next (settle s h)))

/-- The two errors of a frame, its character, and flow recognition (R71, R72, R78, R79): parity by the format over the data
decisions, framing by any space stop decision, the first data decision the least significant bit; with RX_FLOW off nothing is
recognised, and with equal shadows XON while remote hold is on and XOFF while it is off. -/
def Sys2Proof.Claims.FrameJudgement : Prop :=
  (∀ (f : LineFormat) (bits : List Bool), bits.length + 1 = f.length →
    let ones := (bits.take f.dataBits).countP id
    let p := bits.getD f.dataBits false
    (f.parity = .none → parityError f bits = false) ∧
    (f.parity = .even → (parityError f bits = true ↔ (ones + if p then 1 else 0) % 2 = 1)) ∧
    (f.parity = .odd → (parityError f bits = true ↔ (ones + if p then 1 else 0) % 2 = 0)) ∧
    (f.parity = .mark → (parityError f bits = true ↔ p = false)) ∧
    (f.parity = .space → (parityError f bits = true ↔ p = true)) ∧
    (framingError f bits = true ↔
      ∃ b ∈ bits.drop (f.dataBits + if f.parity = .none then 0 else 1), b = false)) ∧
  (∀ (b : Bool) (rest : List Bool), charValue (b :: rest) = (if b then 1 else 0) + 2 * charValue rest) ∧
  charValue [] = 0 ∧
  (∀ (t : Settings) (hold : Bool) (c : Byte),
    (t.rxFlow = false → flowChar t hold c = .none) ∧
    (t.rxFlow = true → c ≠ t.xoffChar → c ≠ t.xonChar → flowChar t hold c = .none) ∧
    (t.rxFlow = true → c = t.xoffChar → (c ≠ t.xonChar ∨ hold = false) → flowChar t hold c = .xoff) ∧
    (t.rxFlow = true → c = t.xonChar → (c ≠ t.xoffChar ∨ hold = true) → flowChar t hold c = .xon))

/-- A break candidate (R75, R63, R77): a space before decision 2N counts; the space at 2N is BREAK_IN, with its flag and marker;
a mark ends the candidate as a character 0x00 with the flags judged at its completion. A space has a margin above 0 (R45).
BIT_DECISION, BREAK_IN and CANDIDATE_CHARACTER name the same decisions (log 12).
The end of the event, `settle`, is the model's (logs 14, 15, 33). -/
def Obligations.BreakCandidateDecides : Prop :=
  ∀ (s : State) (m : Fin 16) (k : Candidate), s.lu.demod = true → s.lu.lineState = .online →
    s.lu.receiver = .candidate k →
    (k.count + 1 < 2 * s.lu.format.length →
      (0 < m.val → exec (.bitDecision .space m) s = .next (settle s (s.withLu
        { s.lu with receiver := .candidate { k with count := k.count + 1 }, idleMark := false, idleRun := ⟨0, 15⟩ }))) ∧
      exec .breakIn s = .next s) ∧
    (k.count + 1 = 2 * s.lu.format.length → 0 < m.val → ∀ c ∈ [Instr.bitDecision .space m, .breakIn],
      exec c s = .next (settle s (arrive (.mark .breakIn 0)
        ((s.withLu { s.lu with receiver := .brk, idleMark := false, idleRun := ⟨0, 15⟩ }).withCbm
          { s.cbm with flagsHi := s.cbm.flagsHi ||| 0x04 })))) ∧
    (s.lu.idleRun.count ≠ 9 → ∀ c ∈ [Instr.bitDecision .mark m, .candidateCharacter m, .idleMarkDecision m],
      exec c s = .next (settle s (arrive (.line 0x00 k.parity k.framing k.weak) (s.withLu
        { s.lu with
          receiver := .hunt, idleMark := true
          idleRun := ⟨s.lu.idleRun.count + 1, min s.lu.idleRun.lowest m.val⟩ })))) ∧
    (s.lu.idleRun.count = 9 → ∀ c ∈ [Instr.bitDecision .mark m, .candidateCharacter m, .idleMarkDecision m],
      exec c s = .next (settle s (arrive (.line 0x00 k.parity k.framing k.weak)
        (updateQs (min s.lu.idleRun.lowest m.val) (s.withLu
          { s.lu with receiver := .hunt, idleMark := true, idleRun := ⟨0, 15⟩ })))))

/-- HOLD_TIMER_EXPIRY (R79, R80): remote hold ends with HOLD_EXPIRED, its marker and a boundary; a HOLD_LIMIT shadow of 0, or a
stopped timer, expires nothing (log 6).
The clock as in log 5; the marker before the boundary is the model's choice (log 31).
The end of the event, `settle`, is the model's (logs 14, 15, 33).
The clock and the tone's phase at a due moment are the model's (logs 5, 34). -/
def Sys2Proof.Claims.HoldTimerExpires : Prop :=
  ∀ s : State,
    (∀ start, s.lu.holdTimer = some start → s.cbm.settings.holdLimit ≠ 0 →
      exec .holdTimerExpiry s = .next (settle s (boundary (arrive (.mark .holdExpired 0)
        (((atTime (start + s.cbm.settings.holdLimit * 1000000) s).withLu
          { s.lu with remoteHold := false, holdTimer := none }).withCbm
            { s.cbm with flagsHi := s.cbm.flagsHi ||| 0x08 }))))) ∧
    ((s.cbm.settings.holdLimit = 0 ∨ s.lu.holdTimer = none) → exec .holdTimerExpiry s = .next s)

/-- The transmitter's operations (R68, R82 to R84): a character and a break tail last one frame-time, a BREAK_SPACE 300 ms; the
end of a character and of a tail is a boundary, and a BREAK_SPACE ends with its request cleared and the tail begun. An operation
not under way completes nothing (log 6).
The clock as in log 5; a frame-time is rounded down to the microsecond there.
The end of the event, `settle`, is the model's (logs 14, 15, 33).
The clock and the tone's phase at a due moment are the model's (logs 5, 34). -/
def Sys2Proof.Claims.TransmitOperationsComplete : Prop :=
  ∀ s : State,
    (∀ ch rate f start, s.lu.txOp = some (.character ch rate f start) →
      exec .characterOperationComplete s = .next (settle s (boundary
        ((atTime (start + f.length * 1000000 / rate) s).withLu { s.lu with txOp := none })))) ∧
    (∀ start, s.lu.txOp = some (.breakSpace start) →
      exec .breakSpaceEnd s = .next (settle s ((atTime (start + 300000) s).withLu
        { s.lu with breakReq := false, txOp := some (.breakTail (max s.env.now (start + 300000))) }))) ∧
    (∀ start, s.lu.txOp = some (.breakTail start) →
      exec .breakTailComplete s = .next (settle s (boundary
        ((atTime (start + s.lu.format.length * 1000000 / s.lu.rate) s).withLu { s.lu with txOp := none })))) ∧
    ((∀ ch rate f start, s.lu.txOp ≠ some (.character ch rate f start)) →
      exec .characterOperationComplete s = .next s) ∧
    ((∀ start, s.lu.txOp ≠ some (.breakSpace start)) → exec .breakSpaceEnd s = .next s) ∧
    ((∀ start, s.lu.txOp ≠ some (.breakTail start)) → exec .breakTailComplete s = .next s) ∧
    (∀ f : LineFormat, f.length = 1 + (if f.eightData then 8 else 7) + (if f.parity = .none then 0 else 1)
      + (if f.twoStop then 2 else 1))

/-- The tone out and the tones heard (R44, R45, R82, R83): outside an operation silence or mark; within a character its start bit of
space, its data bits from the least significant, the parity bit of its format and its stop bits of mark, the bit whose time the
clock is in (log 28); a break's space and its tail of mark. The role gives the sent tone of a level, also to a character left over
from a connection of the other role (the model's choice, log 30), and the heard tones the demodulator compares while it runs. The
phase of the tone out runs, from now on, by the tone of each microsecond of the operation, and stands while nothing is sent (log
34). -/
def Sys2Proof.Claims.TonesSentAndHeard : Prop :=
  ∀ s : State,
    (s.lu.txOp = none → s.lu.txRest = .silent → sentLevel s = none) ∧
    (s.lu.txOp = none → s.lu.txRest = .mark → sentLevel s = some true) ∧
    (∀ start, s.lu.txOp = some (.breakSpace start) → sentLevel s = some false) ∧
    (∀ start, s.lu.txOp = some (.breakTail start) → sentLevel s = some true) ∧
    (∀ c rate f start, s.lu.txOp = some (.character c rate f start) →
      let i := (s.env.now - start) * rate / 1000000
      let data := if f.eightData then 8 else 7
      let ones := (List.range data).countP (fun k => c.getLsbD k)
      (i = 0 → sentLevel s = some false) ∧
      (1 ≤ i → i ≤ data → sentLevel s = some (c.getLsbD (i - 1))) ∧
      (i = data + 1 → sentLevel s = some (match f.parity with
        | .none => true
        | .even => decide (ones % 2 = 1)
        | .odd => decide (ones % 2 = 0)
        | .mark => true
        | .space => false)) ∧
      (data + 1 < i → sentLevel s = some true)) ∧
    (s.lu.role = .originate →
      toneOut s = (sentLevel s).map (fun mark => if mark then 1120 else 1320) ∧
      heardTone s true = 2110 ∧ heardTone s false = 2310) ∧
    (s.lu.role = .answer →
      toneOut s = (sentLevel s).map (fun mark => if mark then 2110 else 2310) ∧
      heardTone s true = 1120 ∧ heardTone s false = 1320) ∧
    (s.lu.demod = true → tonesCompared s = some (heardTone s true, heardTone s false)) ∧
    (s.lu.demod = false → tonesCompared s = none) ∧
    (∀ d : Nat, s.lu.phasePassed s.env.now (s.env.now + d) =
      ((List.range d).map (fun k => (toneOut (s.withEnv { s.env with now := s.env.now + k })).getD 0)).sum)

/-- The transmit arbiter's choice at a boundary (R84 to R87, R89 to R91, R107): SU's flow request, then a break, then the head of
the key-transmit FIFO while no remote hold is on (with its echo entry in HALF), then the host's transmit ring; none is taken
outside a boundary. -/
def Obligations.TransmitArbiterChoice : Prop :=
  ∀ s : State,
    let start := fun (c : Byte) (l : LineUnit) => { l with txOp := some (.character c s.lu.rate s.lu.format s.env.now) }
    let free := s.su.ownFlow ≠ .stopAsked ∧ s.su.ownFlow ≠ .goAsked
    (atBoundary s = true ↔ s.lu.lineState = .online ∧ s.lu.txOp = none ∧ s.lu.ringFetch ≠ .readWait) ∧
    (atBoundary s = false → boundary s = s) ∧
    (atBoundary s = true →
      (s.su.ownFlow = .stopAsked → boundary s =
        (s.withSu { s.su with ownFlow := .stopped }).withLu (start s.cbm.settings.xoffChar s.lu)) ∧
      (s.su.ownFlow = .goAsked → boundary s =
        (s.withSu { s.su with ownFlow := .flowing }).withLu (start s.cbm.settings.xonChar s.lu)) ∧
      (free → s.lu.breakReq = true → boundary s = s.withLu { s.lu with txOp := some (.breakSpace s.env.now) }) ∧
      (∀ c rest, free → s.lu.breakReq = false → s.lu.keyTx = c :: rest → s.lu.remoteHold = false →
        let u := s.withLu (start c { s.lu with keyTx := rest })
        boundary s = if s.cbm.settings.echoHalf then arrive (.echo c) u else u) ∧
      (free → s.lu.breakReq = false → s.lu.keyTx = [] → s.lu.remoteHold = false → s.cbm.geometry.isSome = true →
        s.cbm.txProd ≠ s.lu.txCons → s.lu.ringFetch = .none →
        boundary s = s.withLu { s.lu with ringFetch := .readWait }) ∧
      (free → s.lu.breakReq = false →
        (s.lu.remoteHold = true ∨ (s.lu.keyTx = [] ∧
          (s.cbm.geometry = none ∨ s.cbm.txProd = s.lu.txCons ∨ s.lu.ringFetch ≠ .none))) → boundary s = s))

/-! ## The stream -/

/-- An entry that arrives at SU (R96 to R98, R100): it joins staging, and a deposit begins when it may; with staging full it is
lost, counted with saturation, with STREAM_LOST; a lost entry of LU is counted whatever the staging and its LOST marker takes a
free slot at once. -/
def Obligations.StreamArrivals : Prop :=
  (∀ (e : Entry) (s : State), s.su.staging.length < 8 →
    arrive e s = tryDeposit (s.withSu { s.su with staging := s.su.staging ++ [e] })) ∧
  (∀ (e : Entry) (s : State), 8 ≤ s.su.staging.length → arrive e s = countLost s) ∧
  (∀ s : State, countLost s = (s.withSu { s.su with
      lostCount := if s.su.lostCount < 255 then s.su.lostCount + 1 else s.su.lostCount
      lostTotal := if s.su.lostTotal < 65535 then s.su.lostTotal + 1 else s.su.lostTotal }).withCbm
        { s.cbm with flagsLo := s.cbm.flagsLo ||| 0x10 }) ∧
  (∀ s : State, arriveLost s = tryDeposit (placeLost (countLost s))) ∧
  (∀ s : State, 0 < s.su.lostCount → s.su.staging.length < 8 → placeLost s =
    s.withSu { s.su with staging := s.su.staging ++ [.mark .lost s.su.lostCount], lostCount := 0 }) ∧
  (∀ s : State, (s.su.lostCount = 0 ∨ 8 ≤ s.su.staging.length) → placeLost s = s) ∧
  (∀ (s : State) (g : Geometry), s.cbm.geometry = some g → s.su.staging ≠ [] → s.su.deposit = .none →
    (s.su.producer + 1) % g.rxCap.toNat ≠ s.su.consumerCopy →
    tryDeposit s = s.withSu { s.su with deposit := .byte0Wait }) ∧
  (∀ (s : State) (g : Geometry), s.cbm.geometry = some g →
    (s.su.staging = [] ∨ s.su.deposit ≠ .none ∨ (s.su.producer + 1) % g.rxCap.toNat = s.su.consumerCopy) →
    tryDeposit s = s) ∧
  (∀ s : State, s.cbm.geometry = none → tryDeposit s = s)

/-- The own-flow state (R104 to R106, R108): the table with TX_FLOW on, and with it off; an evaluation acts only in ONLINE, and
a request it raises is a boundary (R84). -/
def Obligations.OwnFlowEvaluation : Prop :=
  (∀ (s : State) (g : Geometry), s.cbm.geometry = some g →
    let free := (g.rxCap.toNat - 1) - (s.su.producer + g.rxCap.toNat - s.su.consumerCopy) % g.rxCap.toNat
    let xon := min s.cbm.settings.xonFree (g.rxCap.toNat - 1)
    let xoff := min s.cbm.settings.xoffFree (xon - 2)
    (s.cbm.settings.txFlow = true →
      (s.su.ownFlow = .flowing → ownFlowNext s = if free ≤ xoff then .stopAsked else .flowing) ∧
      (s.su.ownFlow = .stopAsked → ownFlowNext s = if xon ≤ free then .flowing else .stopAsked) ∧
      (s.su.ownFlow = .stopped → ownFlowNext s = if xon ≤ free then .goAsked else .stopped) ∧
      (s.su.ownFlow = .goAsked → ownFlowNext s = if free ≤ xoff then .stopped else .goAsked)) ∧
    (s.cbm.settings.txFlow = false →
      ownFlowNext s = match s.su.ownFlow with
        | .flowing => .flowing | .stopAsked => .flowing | .stopped => .goAsked | .goAsked => .goAsked)) ∧
  (∀ s : State, s.lu.lineState ≠ .online → evaluateFlow s = s) ∧
  (∀ s : State, s.lu.lineState = .online → ownFlowNext s = s.su.ownFlow → evaluateFlow s = s) ∧
  (∀ s : State, s.lu.lineState = .online → ownFlowNext s ≠ s.su.ownFlow →
    evaluateFlow s =
      let u := s.withSu { s.su with ownFlow := ownFlowNext s }
      if ownFlowNext s = .stopAsked ∨ ownFlowNext s = .goAsked then boundary u else u)

/-! ## Statements made of the above -/

/-- CARRIER_PRESENT and CARRIER_ABSENT (R46, R47, R50, R51, R54, R56, R57); an event that is no change, log 6. -/
def Obligations.CarrierMovesTheLine : Prop :=
  CarrierPresentMovesTheLine ∧ CarrierAbsentMovesTheLine

/-- The line timers and the integration (R45, R51 to R53, R55, R58). The clock is log 5, the two rows of the tenth mark log 12, the character left at an entry to OFF log 22. -/
def Obligations.LineTimersAndIntegration : Prop :=
  LineTimersExpire ∧ IntegrationCountsTenMarks

/-- Line quality and quiet mode (R62, R64). -/
def Obligations.LineQualityAndQuietMode : Prop :=
  QualityUpdate ∧ QuietModeEvaluation

/-- A frame from its first decision to its completion (R62, R71 to R74, R78, R79); its two rows, log 12. -/
def Obligations.FramesAreReceived : Prop :=
  FrameCollectsDecisions ∧ FrameCompletes

/-- What the bytes of a stream entry, a key event, a received frame and a segment of a row mean (R71, R72, R78, R79, R94, R125, R138). -/
def Obligations.FormatsOfCharactersAndEntries : Prop :=
  EntryFormats ∧ FrameJudgement

/-- The ends of the transmitter's operations and of a remote hold (R68, R79, R80, R82 to R84), and the tones sent and heard (R44, R45); the clock, log 5; the tones, logs 28, 30 and 34; the order at a hold expiry, log 31. -/
def Obligations.TransmitOperationsEnd : Prop :=
  HoldTimerExpires ∧ TransmitOperationsComplete ∧ TonesSentAndHeard

/-! ## The keyboard -/

/-- SCAN_PASS (R113, R114): every record moves as the debounce table gives, the releases are handled before the presses, each in
ascending code order; in the wake scan or with the reset line held KS makes no scan pass (log 6).
The clock as in log 5.
The end of the event, `settle`, is the model's (logs 14, 15, 33).
The clock and the tone's phase at a due moment are the model's (logs 5, 34). -/
def Sys2Proof.Claims.ScanPassDebounces : Prop :=
  (∀ (s : State) (closed : BitVec 80), s.mp.resetHeld = false → s.ks.scanMode = .matrix → s.ks.records.length = 80 →
    let u := atTime (s.ks.lastPass + 5000) s
    let moved := u.withKs { s.ks with lastPass := u.env.now, records := moveRecords s.ks.records closed }
    let opens := (List.range 80).filter (fun c =>
      decide ((s.ks.records.getD c clearRecord).debounce = .opening2) && !closed.getLsbD c)
    let closes := (List.range 80).filter (fun c =>
      decide ((s.ks.records.getD c clearRecord).debounce = .closing2) && closed.getLsbD c)
    exec (.scanPass closed) s = .next (settle s (admitAll closes (opens.foldl (fun t c => letGo c t) moved)))) ∧
  (∀ (c : Nat) (rest : List Nat) (s : State), admitAll (c :: rest) s = admitAll rest (admitKey rest c s)) ∧
  (∀ s : State, admitAll [] s = s) ∧
  (∀ (rs : List KeyRecord) (closed : BitVec 80) (c : Nat) (r : KeyRecord), rs.length = 80 → rs[c]? = some r →
    (moveRecords rs closed)[c]? = some { r with
      debounce := if closed.getLsbD c then
          match r.debounce with
          | .opened => .closing1 | .closing1 => .closing2 | .closing2 => .down | .down => .down
          | .opening1 => .down | .opening2 => .down
        else
          match r.debounce with
          | .down => .opening1 | .opening1 => .opening2 | .opening2 => .opened
          | .opened => .opened | .closing1 => .opened | .closing2 => .opened }) ∧
  (∀ (s : State) (closed : BitVec 80), (s.mp.resetHeld = true ∨ s.ks.scanMode = .wake) →
    exec (.scanPass closed) s = .next s)

/-- A position that became DOWN (R115 to R117, R121): a phantom (three further corners of a rectangle held) is SUPPRESSED with no
event; SHIFT and CTRL are ADMITTED and marked down before their PRESS; any other key is SUPPRESSED while four are held, and
otherwise ADMITTED, joins the held-key table with its value UNKNOWN, starts the repeat timer with the settings sampled, and makes
a PRESS.
A press of the same pass not yet handled is not held for the test (log 17). -/
def Sys2Proof.Claims.KeyAdmission : Prop :=
  ∀ (later : List Nat) (c : Nat) (s : State), c < 80 →
    let heldAt := fun r k : Nat =>
      (s.ks.records.getD (r * 10 + k) clearRecord).debounce ∈ [.down, .opening1, .opening2] ∧ r * 10 + k ∉ later
    let phantom := ∃ r2 c2, r2 < 8 ∧ c2 < 10 ∧ r2 ≠ c / 10 ∧ c2 ≠ c % 10 ∧
      heldAt (c / 10) c2 ∧ heldAt r2 (c % 10) ∧ heldAt r2 c2
    let classed := fun k : KeyClass => s.withKs { s.ks with
      records := s.ks.records.set c { s.ks.records.getD c clearRecord with cls := k } }
    (phantom → admitKey later c s = classed .suppressed) ∧
    (¬phantom → c = 78 → admitKey later c s =
      makeEvent 78 .press ((classed .admitted).withKs { (classed .admitted).ks with shiftDown := true })) ∧
    (¬phantom → c = 79 → admitKey later c s =
      makeEvent 79 .press ((classed .admitted).withKs { (classed .admitted).ks with ctrlDown := true })) ∧
    (¬phantom → c < 78 → 4 ≤ s.ks.held.length → admitKey later c s = classed .suppressed) ∧
    (¬phantom → c < 78 → s.ks.held.length < 4 → admitKey later c s =
      makeEvent c .press ((classed .admitted).withKs { (classed .admitted).ks with
        held := s.ks.held ++ [⟨c, none⟩]
        repDelay := s.cbm.settings.repeatDelay
        repInterval := s.cbm.settings.repeatInterval
        rep := some ⟨c, s.env.now, s.cbm.settings.repeatDelay⟩ }))

/-- A position that became OPEN (R117, R118): a SUPPRESSED key makes nothing; an ADMITTED modifier is marked up before its
RELEASE; any other ADMITTED key leaves the held-key table, stops the repeat timer if it serves it, and makes a RELEASE. -/
def Sys2Proof.Claims.KeyRelease : Prop :=
  ∀ (c : Nat) (s : State),
    let r := s.ks.records.getD c clearRecord
    (r.cls = .suppressed → letGo c s = s) ∧
    (r.cls = .admitted → c = 78 → letGo c s = makeEvent 78 .release (s.withKs { s.ks with shiftDown := false })) ∧
    (r.cls = .admitted → c = 79 → letGo c s = makeEvent 79 .release (s.withKs { s.ks with ctrlDown := false })) ∧
    (r.cls = .admitted → c ≠ 78 → c ≠ 79 → letGo c s = makeEvent c .release (s.withKs { s.ks with
      held := s.ks.held.filter (fun h => h.code != c)
      rep := match s.ks.rep with | some t => if t.code = c then none else some t | none => none }))

/-- A key event (R119, R120): its shift state and its value source; it joins the key FIFO with the lost count, which returns to
0, or is lost with KEY_LOST when 8 wait; a press of a key that is no modifier turns its press state PENDING or LOST; processing
begins when it may (R123). -/
def Sys2Proof.Claims.KeyEventOffered : Prop :=
  ∀ (c : Nat) (k : KeyKind) (s : State),
    let shift := (if s.ks.shiftDown then 1 else 0) + (if s.ks.ctrlDown then 2 else 0)
    let source : ValueSource :=
      if c = 78 then .fixed 0xF0
      else if c = 79 then .fixed 0xF1
      else if k = .release then
        if (s.ks.records.getD c clearRecord).press = .lost then .fixed 0xFF else .fromPress
      else .lookup
    let pressed := fun (p : PressState) (t : State) =>
      if (k = .press ∨ k = .wakePress) ∧ c ≠ 78 ∧ c ≠ 79 then
        t.withKs { t.ks with records := t.ks.records.set c { t.ks.records.getD c clearRecord with press := p } }
      else t
    (s.ks.fifo.length < 8 → makeEvent c k s = tryProcess (pressed .pending (s.withKs { s.ks with
      fifo := s.ks.fifo ++ [⟨c, k, shift, source, none, s.ks.lostCount⟩], lostCount := 0 }))) ∧
    (8 ≤ s.ks.fifo.length → makeEvent c k s = pressed .lost ((s.withKs { s.ks with
      lostCount := if s.ks.lostCount < 255 then s.ks.lostCount + 1 else s.ks.lostCount }).withCbm
        { s.cbm with flagsLo := s.cbm.flagsLo ||| 0x20 }))

/-- Processing of the head of the key FIFO begins (R123, R124): a keymap read for a value to look up, the deposit at once for a
fixed value or the value of the press; not while the ring is full, the rings UNSET, an event under way, or the FIFO empty. -/
def Sys2Proof.Claims.KeyProcessingBegins : Prop :=
  (∀ (s : State) (g : Geometry) (e : KeyEvent) (rest : List KeyEvent), s.cbm.geometry = some g → s.ks.fifo = e :: rest →
    s.ks.proc = .none → (s.ks.producer + 1) % g.keyCap.toNat ≠ s.ks.consumerCopy →
    (e.source = .lookup → tryProcess s = s.withKs { s.ks with proc := .lookupWait }) ∧
    (∀ v, e.source = .fixed v → tryProcess s = s.withKs
      { s.ks with fifo := { e with mapped := some v } :: rest, proc := .byteWait 0 }) ∧
    (e.source = .fromPress → tryProcess s = s.withKs { s.ks with
      fifo := { e with mapped := some (s.ks.records.getD e.code clearRecord).value } :: rest, proc := .byteWait 0 })) ∧
  (∀ s : State, (s.cbm.geometry = none ∨ s.ks.fifo = [] ∨ s.ks.proc ≠ .none ∨
    ∃ g, s.cbm.geometry = some g ∧ (s.ks.producer + 1) % g.keyCap.toNat = s.ks.consumerCopy) → tryProcess s = s)

/-- REPEAT_TIMER_EXPIRY (R121, R122): a key that is DOWN with a value that repeats (0x00 to 0x7F, or 0x82) makes a REPEAT and
restarts the timer toward the interval; with its value UNKNOWN, or the key not DOWN, the timer only restarts; any other value
stops it. A stopped timer expires nothing (log 6).
The clock as in log 5.
The end of the event, `settle`, is the model's (logs 14, 15, 33).
The clock and the tone's phase at a due moment are the model's (logs 5, 34). -/
def Sys2Proof.Claims.RepeatTimerExpires : Prop :=
  ∀ s : State,
    (s.ks.rep = none → exec .repeatTimerExpiry s = .next s) ∧
    (∀ c start limit, s.ks.rep = some ⟨c, start, limit⟩ →
      let u := atTime (start + limit * 50000) s
      let restarted := u.withKs { s.ks with rep := some ⟨c, u.env.now, s.ks.repInterval⟩ }
      let down := (s.ks.records.getD c clearRecord).debounce = .down
      let value := (s.ks.held.find? (fun h => h.code == c)).bind HeldKey.value
      (¬down → exec .repeatTimerExpiry s = .next (settle s restarted)) ∧
      (down → value = none → exec .repeatTimerExpiry s = .next (settle s restarted)) ∧
      (∀ v, down → value = some v → (v.toNat ≤ 0x7F ∨ v = 0x82) →
        exec .repeatTimerExpiry s = .next (settle s (makeEvent c .repeated restarted))) ∧
      (∀ v, down → value = some v → 0x7F < v.toNat → v ≠ 0x82 →
        exec .repeatTimerExpiry s = .next (settle s (u.withKs { s.ks with rep := none }))))

/-- WAKE_PASS (R130, R41): with nothing closed only the pass is made; otherwise the lowest closed code wakes the part: standby
ends, the waking key is DOWN and ADMITTED with its modifier or held-key entry, the other closed positions are DOWN and
SUPPRESSED, and a WAKE_PRESS is made. Outside the wake scan there is no wake pass (log 6).
The clock as in log 5. The end of standby is `endStandby`, pinned beside WAKE, with the model's choices of logs 19 and 20.
The end of the event, `settle`, is the model's (logs 14, 15, 33).
The clock and the tone's phase at a due moment are the model's (logs 5, 34). -/
def Obligations.WakePassWakes : Prop :=
  ∀ (s : State) (closed : BitVec 80),
    let u := atTime (s.ks.lastPass + 20000) s
    let passed := u.withKs { s.ks with lastPass := u.env.now }
    ((s.mp.resetHeld = true ∨ s.ks.scanMode = .matrix) → exec (.wakePass closed) s = .next s) ∧
    (s.mp.resetHeld = false → s.ks.scanMode = .wake →
      ((∀ c, c < 80 → closed.getLsbD c = false) → exec (.wakePass closed) s = .next (settle s passed)) ∧
      (∀ w, w < 80 → closed.getLsbD w = true → (∀ c, c < w → closed.getLsbD c = false) →
        let t := endStandby passed
        let woken := t.withKs { t.ks with records := wakeRecords t.ks.records closed w }
        exec (.wakePass closed) s = .next (settle s (makeEvent w .wakePress
          (if w = 78 then woken.withKs { woken.ks with shiftDown := true }
            else if w = 79 then woken.withKs { woken.ks with ctrlDown := true }
            else woken.withKs { woken.ks with held := woken.ks.held ++ [⟨w, none⟩] }))))) ∧
    (∀ (rs : List KeyRecord) (w c : Nat) (r : KeyRecord), rs.length = 80 → rs[c]? = some r →
      (wakeRecords rs closed w)[c]? = some
        (if c = w then { r with debounce := .down, cls := .admitted }
          else if closed.getLsbD c then { r with debounce := .down, cls := .suppressed } else r))

/-- The direct actions of a mapped value (R88, R90, R127, R128, R146, R148): a character goes to the key-transmit FIFO (at most
16, dropped with KEY_TX_LOST beyond), or under LOCAL_COPY in OFF to the stream as ECHO; 0x80 asks for a break in ONLINE, 0x81
toggles the hold request, 0x82 adds a paper feed; any other value does nothing. -/
def Obligations.DirectKeyActions : Prop :=
  ∀ (v : Byte) (s : State),
    (v.toNat ≤ 0x7F → s.cbm.settings.localCopy = true → s.lu.lineState = .off →
      directAction v s = arrive (.echo v) s) ∧
    (v.toNat ≤ 0x7F → (s.cbm.settings.localCopy = false ∨ s.lu.lineState ≠ .off) →
      (16 ≤ s.lu.keyTx.length → directAction v s = s.withCbm { s.cbm with flagsLo := s.cbm.flagsLo ||| 0x40 }) ∧
      (s.lu.keyTx = [] → directAction v s = boundary (s.withLu { s.lu with keyTx := [v] })) ∧
      (s.lu.keyTx ≠ [] → s.lu.keyTx.length < 16 →
        directAction v s = s.withLu { s.lu with keyTx := s.lu.keyTx ++ [v] })) ∧
    (v = 0x80 → s.lu.lineState ≠ .online → directAction v s = s) ∧
    (v = 0x80 → s.lu.lineState = .online → directAction v s =
      match s.lu.breakReq, s.lu.txOp with
      | true, _ => s
      | false, some (.breakSpace _) => s
      | false, _ => boundary (s.withLu { s.lu with breakReq := true })) ∧
    (v = 0x81 → s.ps.holdRequest = true → directAction v s = clearHold s) ∧
    (v = 0x81 → s.ps.holdRequest = false → directAction v s = setHold s) ∧
    (v = 0x82 → directAction v s =
      let u := s.withPs { s.ps with localFeeds := if s.ps.localFeeds < 15 then s.ps.localFeeds + 1 else s.ps.localFeeds }
      if (s.ps.engine = .idle ∨ s.ps.engine = .waitCache) ∧ s.cbm.standby = false then startLocalFeed u else u) ∧
    (0x83 ≤ v.toNat → directAction v s = s)

/-! ## Print, strobes, heat, paper -/

/-- A fetch begins, and an engine that needs the cache (R136, R140): the conditions of a fetch hold together; the engine starts
the row of a READY cache, stops in ERROR_STOP at a BAD one with its record and flag, waits for one being fetched or for a
descriptor that waits, and idles otherwise. Then the operations made of these: a fetch from IDLE enters WAIT_CACHE, a change of the
cache makes an engine in IDLE or WAIT_CACHE need it (R140), what follows a row end (R141), and a local feed row (R145). -/
def Obligations.EngineNeedsTheCache : Prop :=
  ∀ s : State,
    (canFetch s = true ↔ (∃ g, s.cbm.geometry = some g ∧ s.ps.woundBack = false ∧
        ringDiff g.pqCap.toNat s.ps.fetchIndex s.ps.consumer < ringDiff g.pqCap.toNat s.cbm.pqProd s.ps.consumer) ∧
      s.cbm.standby = false ∧ s.ps.cache = .empty ∧ s.ps.engine ≠ .errorStop ∧ s.ps.cancel = none) ∧
    (s.ps.cache = .empty → canFetch s = true → needCache s = s.withPs { s.ps with
      engine := .waitCache
      cache := .fetching s.ps.fetchIndex []
      fetchIndex := (s.ps.fetchIndex + 1) % s.geo Geometry.pqCap }) ∧
    (s.ps.cache = .empty → canFetch s = false → needCache s = s.withPs { s.ps with engine := .idle }) ∧
    (∀ p bytes, s.ps.cache = .fetching p bytes → needCache s = s.withPs { s.ps with engine := .waitCache }) ∧
    (∀ p d image k, s.ps.cache = .loading p d image k → needCache s = s.withPs { s.ps with engine := .waitCache }) ∧
    (∀ p, s.ps.cache = .bad p → needCache s =
      (s.withPs { s.ps with
        engine := .errorStop, cache := .empty, completion := s.ps.completion ++ [⟨p, .badDesc⟩] }).withCbm
          { s.cbm with flagsLo := s.cbm.flagsLo ||| 0x80 }) ∧
    (∀ p d image, s.ps.cache = .ready p d image →
      let u := s.withPs { s.ps with
        latch := some ⟨p, d.kind, d.rows, d.darkness⟩
        latchImage := if d.kind = .dots then image else s.ps.latchImage
        cache := .empty }
      needCache s = startLatchRow (if canFetch u then u.withPs { u.ps with
        cache := .fetching s.ps.fetchIndex [], fetchIndex := (s.ps.fetchIndex + 1) % s.geo Geometry.pqCap } else u)) ∧
    (canFetch s = false → fetchWork s = s) ∧
    (canFetch s = true → fetchWork s = s.withPs { s.ps with
      engine := if s.ps.engine = .idle then .waitCache else s.ps.engine
      cache := .fetching s.ps.fetchIndex []
      fetchIndex := (s.ps.fetchIndex + 1) % s.geo Geometry.pqCap }) ∧
    (s.ps.engine = .idle ∨ s.ps.engine = .waitCache → cacheChanged s = needCache s) ∧
    (s.ps.engine ≠ .idle → s.ps.engine ≠ .waitCache → cacheChanged s = s) ∧
    (s.ps.latch.isSome = true → nextRow s = startLatchRow s) ∧
    (s.ps.latch = none → 0 < s.ps.localFeeds → nextRow s = startLocalFeed s) ∧
    (s.ps.latch = none → s.ps.localFeeds = 0 → nextRow s = needCache s) ∧
    startLocalFeed s = requestStep (s.withPs
      { s.ps with localFeeds := s.ps.localFeeds - 1, rowKind := some .localFeed, row := none })

/-- The start of a row (R142, R143, R145, R168 to R170, R175): a feed row goes straight to the step; a DOTS or REPEAT row forms
its record from the settings, takes a reading, holds for a supply below 44 tenths of a volt, paces when some Teff is at or
above WARN, and otherwise reaches its plan point. -/
def Obligations.RowStarts : Prop :=
  ∀ (s : State) (l : Latch), s.ps.latch = some l →
    (l.kind = .feed → startLatchRow s =
      requestStep (s.withPs { s.ps with rowKind := some .latchFeed, row := none })) ∧
    (l.kind ≠ .feed →
      let r : RowRecord :=
        { darkness := (match l.darkness with | some d => d | none => s.cbm.settings.darkness)
          ratio := s.cbm.settings.history, warn := s.cbm.settings.warnTemp, stop := s.cbm.settings.stopTemp
          burned := [], decision := none, phaseStarted := false, batteryAtStart := false }
      let u := takeReading (s.withPs { s.ps with rowKind := some .burning, row := some r })
      (∀ v, u.sm.supply = some v → v < 44 → startLatchRow s = cancelEffect (
        (u.withPs { u.ps with engine := .batteryHold, row := some { r with batteryAtStart := true } }).withSm
          { u.sm with readingTimer := some s.env.now })) ∧
      (∀ v, u.sm.supply = some v → 44 ≤ v → u.hotAt r.warn = true → startLatchRow s =
        (((u.withPs { u.ps with engine := .coolPace }).withCbm { u.cbm with flagsHi := u.cbm.flagsHi ||| 0x20 }).withHm
          { u.hm with pacing := some s.env.now }).withSm { u.sm with readingTimer := some s.env.now }) ∧
      (∀ v, u.sm.supply = some v → 44 ≤ v → u.hotAt r.warn = false → startLatchRow s = planPoint u))

/-- A reading (R168, R169): the levels fed in, or free values (log 10), become tenths of a volt within 0..99 and degrees within
−20..100, rounded down; a supply below 46 sets BATTERY_LOW. -/
def Sys2Proof.Claims.ReadingsAreTaken : Prop :=
  (∀ (s : State) (mv : Nat) (md : Int) (rest : List Sense), s.env.senseIn = ⟨mv, md⟩ :: rest →
    let v := min 99 (mv / 100)
    takeReading s =
      let u := (s.withEnv { s.env with senseIn := rest }).withSm
        { s.sm with supply := some v, headTemp := some (max (-20) (min 100 (md / 1000))) }
      if v < 46 then u.withCbm { s.cbm with flagsHi := s.cbm.flagsHi ||| 0x80 } else u) ∧
  (∀ s : State, s.env.senseIn = [] → ∃ (v : Nat) (t : Int), v ≤ 99 ∧ -20 ≤ t ∧ t ≤ 100 ∧
    takeReading s =
      let u := (s.withEnv { s.env with senseUsed := s.env.senseUsed + 1 }).withSm
        { s.sm with supply := some v, headTemp := some t }
      if v < 46 then u.withCbm { s.cbm with flagsHi := s.cbm.flagsHi ||| 0x80 } else u)

/-- A plan point (R143, R144, R147, R149, R157, R161): a set hold request is taken IN_ROW; otherwise SP plans, an empty plan
goes straight to the step, and the first phase of any other starts. -/
def Obligations.PlanPoint : Prop :=
  ∀ (s : State) (r : RowRecord), s.ps.row = some r →
    (s.ps.holdRequest = true →
      planPoint s = cancelEffect (s.withPs { s.ps with engine := .held, heldPoint := .inRow })) ∧
    (s.ps.holdRequest = false →
      let decision : HistoryImage :=
        match r.phaseStarted, r.decision with
        | true, some d => d
        | _, _ => match s.ps.history with
          | some h => if s.env.now - h.time ≤ 50000 then some h.image else none
          | none => none
      let r1 := { r with decision := some decision }
      let p := makePlan s r1 decision
      let u := s.withPs { s.ps with row := some r1 }
      (p.phases = [] → planPoint s = requestStep (u.withSp { s.sp with plan := some p })) ∧
      (p.phases ≠ [] → planPoint s = startPhase p r1 (u.withPs { u.ps with engine := .burn })))

/-- A plan (R157 to R160): its inputs, the allowance by the supply reading and the quiet mode, and for each unburned segment its
on-dots, fresh dots and held dots over its nine row bytes (with a BLANK history every on-dot is fresh). Each phase takes segments in ascending order, those without dots left
out, while its dots stay within the allowance; a later phase opens only with a segment that would have passed it. -/
def Sys2Proof.Claims.PlanOfARow : Prop :=
  (∀ (s : State) (r : RowRecord) (d : HistoryImage),
    let p := makePlan s r d
    let v := s.sm.supply.getD 0
    let full := if 60 ≤ v then 216 else if 52 ≤ v then 144 else 72
    p.supply = v ∧ p.headTemp = s.headTemp ∧ p.darkness = r.darkness ∧ p.ratio = r.ratio ∧ p.decision = d ∧
    p.current = 0 ∧ p.allowance = (if s.lu.quiet then max 72 (full / 2) else full) ∧
    p.counts = ((List.range 8).filter (fun i => decide (i ∉ r.burned))).map (countSegment s.ps.latchImage d) ∧
    p.phases.flatten = ((p.counts.filter (fun c => c.on != 0)).map (fun c => c.segment)) ∧
    p.withinAllowance ∧ (∀ a ∈ p.phases, a ≠ []) ∧
    (∀ a b : List Nat, [a, b] <:+: p.phases → p.allowance < (a.map p.dots).sum + p.dots (b.headD 0))) ∧
  (∀ (image old : Image) (i : Nat), image.length = 72 → old.length = 72 → i < 8 →
    let dots := (List.range 72).map (fun k => (72 * i + k))
    let bit := fun (m : Image) (k : Nat) => (m.getD (k / 8) 0).getLsbD (7 - k % 8)
    let c := countSegment image (some old) i
    c.segment = i ∧ c.on = dots.countP (fun k => bit image k) ∧
    c.fresh = dots.countP (fun k => bit image k && !bit old k) ∧
    c.held = dots.countP (fun k => bit image k && bit old k) ∧
    (countSegment image none i).segment = i ∧
    (countSegment image none i).on = dots.countP (fun k => bit image k) ∧
    (countSegment image none i).fresh = dots.countP (fun k => bit image k) ∧ (countSegment image none i).held = 0)

/-- The pulse times of a segment (R162): from the supply within 44..75, the darkness, the head temperature with the segment's
heat, and the history ratio. -/
def Sys2Proof.Claims.PulseTimes : Prop :=
  ∀ (p : Plan) (estimate segment : Nat),
    let v := max 44 (min 75 p.supply)
    let base := (1000000 + 100000 * p.darkness) / (v * v)
    let teff := max 0 (min 70 (p.headTemp + (estimate / 16 : Nat)))
    let factor := (256 + 4 * (25 - teff)).toNat
    let full := max 150 (min 1500 (base * factor / 256))
    pulseOf p estimate segment = ⟨segment, full, full * p.ratio / 8⟩

/-- The start of a phase (R144, R162, R163, R177): the STOP check over all eight segments sends the engine to HOT_HALT with
HOT_STOP before anything burns; otherwise the pulses are worked out, the phase's strobes turn on, and only its segments' dots are
driven. -/
def Sys2Proof.Claims.PhaseStarts : Prop :=
  ∀ (p : Plan) (r : RowRecord) (s : State),
    (s.hotAt r.stop = true → startPhase p r s = cancelEffect (
      ((((s.withSp { s.sp with plan := some p }).withPs { s.ps with engine := .hotHalt }).withCbm
        { s.cbm with flagsHi := s.cbm.flagsHi ||| 0x40 }).withHm { s.hm with halt := .ackWait }).withSm
          { s.sm with readingTimer := some s.env.now })) ∧
    (s.hotAt r.stop = false →
      let segments := p.phases.getD p.current []
      startPhase p r s =
        (s.withPs { s.ps with engine := .burn, row := some { r with phaseStarted := true } }).withSp
          { s.sp with
            plan := some p
            pulses := segments.map (fun i => pulseOf p (s.hm.estimates.getD i 0) i)
            phaseStart := some s.env.now
            strobes := segments
            dotData := keepSegments s.ps.latchImage segments }) ∧
    (∀ limit : Nat, s.hotAt limit = true ↔
      ∃ h ∈ s.hm.estimates, (limit : Int) ≤ s.headTemp + (h / 16 : Nat))

/-- HELD_DOTS_END, SEGMENT_STROBE_END (R163): at the segment's t_held after the phase start its held dots stop being driven, at
its t_full its strobe turns off, with the dots of a segment its nine row bytes and held dots those on in the history
image; without that segment in a phase under way nothing happens (log 6).
The clock as in log 5.
The end of the event, `settle`, is the model's (logs 14, 15, 33).
The clock and the tone's phase at a due moment are the model's (logs 5, 34). -/
def Sys2Proof.Claims.SegmentPulsesEnd : Prop :=
  (∀ (image : Image) (segments : List Nat) (i : Nat), image.length = 72 → i < 72 →
    (keepSegments image segments).getD i 0 = if i / 9 ∈ segments then image.getD i 0 else 0) ∧
  (∀ (data image old : Image) (segment i : Nat), data.length = 72 → image.length = 72 → old.length = 72 → i < 72 →
    (dropHeldDots data image (some old) segment).getD i 0 =
        (if i / 9 = segment then data.getD i 0 &&& ~~~(image.getD i 0 &&& old.getD i 0) else data.getD i 0) ∧
      (dropHeldDots data image none segment).getD i 0 = data.getD i 0) ∧
  ∀ (s : State) (i : Fin 8),
    let pulse := s.sp.pulses.find? (fun p => p.segment == i.val)
    (∀ p plan start, pulse = some p → s.sp.phaseStart = some start → s.sp.plan = some plan →
      exec (.heldDotsEnd i) s = .next (settle s ((atTime (start + p.held) s).withSp
        { s.sp with dotData := dropHeldDots s.sp.dotData s.ps.latchImage plan.decision i.val }))) ∧
    (∀ p start, pulse = some p → s.sp.phaseStart = some start →
      exec (.segmentStrobeEnd i) s = .next (settle s ((atTime (start + p.full) s).withSp
        { s.sp with strobes := s.sp.strobes.filter (fun k => k != i.val) }))) ∧
    ((pulse = none ∨ s.sp.phaseStart = none) →
      exec (.heldDotsEnd i) s = .next s ∧ exec (.segmentStrobeEnd i) s = .next s)

/-- PHASE_END (R144, R163, R164, R172): at the largest t_full every strobe turns off, HM adds each segment's heat with an end at
1023, and the segments join the burned ones; then a set hold request is taken or the next phase starts, and after the last phase
the step is asked for.
The clock as in log 5; that the head's dot data keeps its value after the phase is the model's choice (log 23).
The end of the event, `settle`, is the model's (logs 14, 15, 33).
The clock and the tone's phase at a due moment are the model's (logs 5, 34). -/
def Sys2Proof.Claims.PhaseEnds : Prop :=
  ∀ (s : State) (start : Nat) (p : Plan) (r : RowRecord), s.sp.phaseStart = some start → s.sp.plan = some p →
    s.ps.row = some r →
    let r1 := { r with burned := r.burned ++ p.phases.getD p.current [] }
    let u := (((atTime (start + (s.sp.pulses.map Pulse.full).foldl max 0) s).withHm
      { s.hm with estimates := s.sp.pulses.foldl (heatSegment p.counts) s.hm.estimates }).withSp
        { s.sp with pulses := [], phaseStart := none, strobes := [] }).withPs { s.ps with row := some r1 }
    (p.phases.length ≤ p.current + 1 → exec .phaseEnd s = .next (settle s (requestStep u))) ∧
    (p.current + 1 < p.phases.length → s.ps.holdRequest = true →
      exec .phaseEnd s =
        .next (settle s (cancelEffect (u.withPs { u.ps with engine := .held, heldPoint := .inRow })))) ∧
    (p.current + 1 < p.phases.length → s.ps.holdRequest = false →
      exec .phaseEnd s = .next (settle s (startPhase { p with current := p.current + 1 } r1 u)))

/-- The heat of a segment after a phase and after a cooling tick (R172, R173): it gains (fresh × t_full + held × t_held) / 512,
at most to 1023; at a tick it loses the larger of 1 and its sixteenth, and 0 stays 0. -/
def Sys2Proof.Claims.HeatGainAndCooling : Prop :=
  (∀ (counts : List SegmentCount) (e : List Nat) (c : SegmentCount) (p : Pulse),
    counts.find? (fun x => x.segment == p.segment) = some c →
    heatSegment counts e p =
      e.set p.segment (min 1023 (e.getD p.segment 0 + (c.fresh * p.full + c.held * p.held) / 512))) ∧
  cooled 0 = 0 ∧
  (∀ h, 0 < h → cooled h = h - max 1 (h / 16)) ∧
  (∀ s : State, coolAll s = s.withHm { s.hm with estimates := s.hm.estimates.map cooled })

/-- The step gate and a step (R180 to R184): the gate is in force by STEP_GATE in ONLINE; an attempt allows the step when it is
not, or when the receiver is outside a frame with the idle-mark indicator set; a step that may not begin waits, and is forced 60
ms later; a step that begins marks a frame in progress for WEAK. The stepper's drives are on while a step is in progress; R181 names
no pattern of them (log 24). A gate wait that does not run expires nothing (log 6).
The clock as in log 5.
The end of the event, `settle`, is the model's (logs 14, 15, 33).
The clock and the tone's phase at a due moment are the model's (logs 5, 34). -/
def Obligations.StepGateAndForcedStep : Prop :=
  ∀ s : State,
    let inForce := (s.cbm.settings.stepGate = .always ∧ s.lu.lineState = .online) ∨
      (s.cbm.settings.stepGate = .quiet ∧ s.lu.lineState = .online ∧ s.lu.quiet = true)
    let outside := (∀ r, s.lu.receiver ≠ .frame r) ∧ s.lu.idleMark = true
    (attemptAllows s = true ↔ (inForce → outside)) ∧
    ((inForce → outside) → requestStep s = beginStep s) ∧
    (inForce → ¬outside → requestStep s = (s.withPs { s.ps with engine := .stepWait }).withPd
      { s.pd with stepState := .waiting, gateWait := some s.env.now }) ∧
    beginStep s = ((s.withPs { s.ps with engine := .step }).withPd
      { s.pd with stepState := .stepping, stepStart := some s.env.now, gateWait := none }).withLu
        (match s.lu.receiver with
          | .frame r => { s.lu with receiver := .frame { r with overlap := true } }
          | _ => s.lu) ∧
    (∀ start, s.pd.gateWait = some start →
      exec .gateWaitExpiry s = .next (settle s (beginStep (atTime (start + 60000) s)))) ∧
    (s.pd.gateWait = none → exec .gateWaitExpiry s = .next s) ∧
    (drivesOn s = true ↔ s.pd.stepState = .stepping)

/-- STEP_COMPLETE (R181, R141, R147): 2.5 ms after its start the step ends, with the sequence position advanced modulo 4, and the
row ends: history, one row less or DONE, then a pending cancel, a set hold request, or the next row.
The clock as in log 5; that the row leaves the state while no step is under way is the model's choice (log 6).
The end of the event, `settle`, is the model's (logs 14, 15, 33).
The clock and the tone's phase at a due moment are the model's (logs 5, 34). -/
def Obligations.StepCompletesTheRow : Prop :=
  ∀ (s : State),
    (s.pd.stepStart = none → exec .stepComplete s = .next s) ∧
    (∀ start, s.pd.stepStart = some start →
      let u := (atTime (start + 2500) s).withPd
        { s.pd with stepState := .idle, stepStart := none, position := (s.pd.position + 1) % 4 }
      let history : Option HistoryRecord :=
        if s.ps.rowKind = some .burning then some ⟨s.ps.latchImage, u.env.now⟩ else none
      let closed := (u.withPs (match s.ps.rowKind, s.ps.latch with
        | some .localFeed, l => { s.ps with history := history, row := none, rowKind := none, latch := l }
        | _, none => { s.ps with history := history, row := none, rowKind := none }
        | _, some l =>
          if l.remaining ≤ 1 then { s.ps with
            history := history, row := none, rowKind := none, latch := none
            completion := s.ps.completion ++ [⟨l.position, .done⟩] }
          else { s.ps with
            history := history, row := none, rowKind := none
            latch := some { l with remaining := l.remaining - 1 } })).withSp { s.sp with plan := none }
      (s.ps.cancel.isSome = true → exec .stepComplete s = .next (settle s (cancelEffect closed))) ∧
      (s.ps.cancel = none → s.ps.holdRequest = true →
        exec .stepComplete s = .next (settle s (closed.withPs
          { closed.ps with engine := .held, heldPoint := .betweenRows }))) ∧
      (s.ps.cancel = none → s.ps.holdRequest = false → closed.ps.latch.isSome = true →
        exec .stepComplete s = .next (settle s (startLatchRow closed))) ∧
      (s.ps.cancel = none → s.ps.holdRequest = false → closed.ps.latch = none → 0 < s.ps.localFeeds →
        exec .stepComplete s = .next (settle s (requestStep (closed.withPs
          { closed.ps with localFeeds := s.ps.localFeeds - 1, rowKind := some .localFeed, row := none })))) ∧
      (s.ps.cancel = none → s.ps.holdRequest = false → closed.ps.latch = none → s.ps.localFeeds = 0 →
        exec .stepComplete s = .next (settle s (needCache closed))))

/-- COOLING_TICK and PACING_TIMER_EXPIRY (R173, R176, R179): at a tick every estimate cools; once every Teff is below the row's
WARN, pacing in COOL_PACE ends, and a halt in COOL_WAIT ends; 250 ms of pacing end it in any case. A pacing timer that does not run
expires nothing (log 6).
The clock as in log 5.
The end of the event, `settle`, is the model's (logs 14, 15, 33).
The clock and the tone's phase at a due moment are the model's (logs 5, 34). -/
def Sys2Proof.Claims.CoolingAndPacing : Prop :=
  (∀ s : State,
    let t := atTime (s.hm.lastTick + 5000) s
    let u := t.withHm { s.hm with lastTick := t.env.now, estimates := s.hm.estimates.map cooled }
    (s.ps.row = none → exec .coolingTick s = .next (settle s u)) ∧
    (∀ r, s.ps.row = some r →
      (u.hotAt r.warn = true → exec .coolingTick s = .next (settle s u)) ∧
      (u.hotAt r.warn = false → s.ps.engine = .coolPace → exec .coolingTick s = .next (settle s (endPacing u))) ∧
      (u.hotAt r.warn = false → s.ps.engine = .hotHalt → s.hm.halt = .coolWait →
        exec .coolingTick s = .next (settle s (endHalt u))) ∧
      (s.ps.engine ≠ .coolPace → ¬(s.ps.engine = .hotHalt ∧ s.hm.halt = .coolWait) →
        exec .coolingTick s = .next (settle s u)))) ∧
  (∀ s : State, s.hm.pacing = none → exec .pacingTimerExpiry s = .next s) ∧
  (∀ (s : State) (start : Nat), s.hm.pacing = some start →
    exec .pacingTimerExpiry s = .next (settle s (endPacing (atTime (start + 250000) s)))) ∧
  (∀ s : State, endPacing s = resumeRow ((s.withHm { s.hm with pacing := none }).withSm
    { s.sm with readingTimer := none })) ∧
  (∀ s : State, endHalt s = resumeRow (takeReading ((s.withHm { s.hm with halt := .none }).withSm
    { s.sm with readingTimer := none }))) ∧
  (∀ (s : State) (v : Nat), s.sm.supply = some v → 44 ≤ v → resumeRow s = planPoint s) ∧
  (∀ (s : State) (v : Nat), s.sm.supply = some v → v < 44 → resumeRow s = cancelEffect (
    (s.withPs { s.ps with
      engine := .batteryHold, row := s.ps.row.map (fun r => { r with batteryAtStart := false }) }).withSm
        { s.sm with readingTimer := some s.env.now }))

/-- READING_TIMER_EXPIRY (R168, R171): every 100 ms a reading is taken and the timer runs on; in BATTERY_HOLD a supply of 46 or
more ends the hold: with the WARN check if it was entered at the row start, else at the plan point. The supply checks
compare the reading held, and while none is held they find no supply below a level (`supplyBelow`, R169, R170).
The clock as in log 5; that the row leaves the state while the reading timer is stopped is the model's choice (log 6).
The end of the event, `settle`, is the model's (logs 14, 15, 33).
The clock and the tone's phase at a due moment are the model's (logs 5, 34). -/
def Sys2Proof.Claims.TimedReadings : Prop :=
  ∀ s : State,
    (∀ n : Nat, supplyBelow n s = true ↔ ∃ v, s.sm.supply = some v ∧ v < n) ∧
    (s.sm.readingTimer = none → exec .readingTimerExpiry s = .next s) ∧
    (∀ start, s.sm.readingTimer = some start →
      let t := takeReading (atTime (start + 100000) s)
      let u := t.withSm { t.sm with readingTimer := some (max s.env.now (start + 100000)) }
      let ended := t.withSm { t.sm with readingTimer := none }
      (s.ps.engine ≠ .batteryHold → exec .readingTimerExpiry s = .next (settle s u)) ∧
      (∀ v, s.ps.engine = .batteryHold → t.sm.supply = some v → v < 46 →
        exec .readingTimerExpiry s = .next (settle s u)) ∧
      (∀ v r, s.ps.engine = .batteryHold → t.sm.supply = some v → 46 ≤ v → s.ps.row = some r →
        exec .readingTimerExpiry s = .next (settle s (
          if r.batteryAtStart = true ∧ ended.hotAt r.warn = true then
            (((ended.withPs { ended.ps with engine := .coolPace }).withCbm
              { ended.cbm with flagsHi := ended.cbm.flagsHi ||| 0x20 }).withHm
                { ended.hm with pacing := some t.env.now }).withSm { ended.sm with readingTimer := some t.env.now }
          else planPoint ended))))

/-! ## What every step keeps -/

/-- RAM keeps its canonical form at every step (log 3). -/
def Obligations.EveryStepKeepsMemoryCanonical : Prop :=
  ∀ s t : State, MemoryCanonical s → step s = .next t → MemoryCanonical t

/-- The eight heat estimates stay within 0..1023 at every step (R172, R173). -/
def Sys2Proof.Claims.EveryStepKeepsHeatInRange : Prop :=
  ∀ s t : State, HeatBounded s → step s = .next t → HeatBounded t

/-- No step puts a page the part writes into the window set (R12). -/
def Obligations.EveryStepKeepsPartPagesOutOfTheWindows : Prop :=
  ∀ s t : State, PartPagesClear s → step s = .next t → PartPagesClear t

/-- Every step keeps the shadows of the settings within their ranges (R29). -/
def Sys2Proof.Claims.EveryStepKeepsSettingsInRange : Prop :=
  ∀ s t : State, SettingsInRange s.cbm.settings → step s = .next t → SettingsInRange t.cbm.settings

/-- Every step keeps the line, the stream and the keyboard within their bounds (R62, R90, R96, R98, R112, R116, R120). -/
def Sys2Proof.Claims.EveryStepKeepsLineStreamAndKeysBounded : Prop :=
  (∀ s t : State, s.lu.bounded → step s = .next t → t.lu.bounded) ∧
  (∀ s t : State, s.su.bounded → step s = .next t → t.su.bounded) ∧
  (∀ s t : State, s.ks.bounded → step s = .next t → t.ks.bounded)

/-- Every step keeps the printer, the plan within its allowance, the paper position, the dirty set and the arbiter's counts
within their bounds (R10, R11, R37, R146, R160, R163, R181). -/
def Sys2Proof.Claims.EveryStepKeepsPrinterAndPortBounded : Prop :=
  (∀ s t : State, s.ps.bounded → step s = .next t → t.ps.bounded) ∧
  (∀ s t : State, s.sp.bounded → step s = .next t → t.sp.bounded) ∧
  (∀ s t : State, s.pd.bounded → step s = .next t → t.pd.bounded) ∧
  (∀ s t : State, s.cbm.bounded → step s = .next t → t.cbm.bounded) ∧
  (∀ s t : State, CountsBounded s → step s = .next t → CountsBounded t)

/-- Every step carries the phase of the tone out on from where it stood (R44, log 34): up to the moment of the step it runs by the
tone of the operation before it, and a tone that the step begins goes on from there, in another bit or after a break. It stays
below a cycle. -/
def Sys2Proof.Claims.EveryStepKeepsTonePhaseContinuous : Prop :=
  ∀ s t : State, s.env.tonePhase < 1000000 → step s = .next t →
    s.env.now ≤ t.env.now ∧
    t.env.tonePhase = (s.env.tonePhase + s.lu.phasePassed s.env.now t.env.now) % 1000000 ∧ t.env.tonePhase < 1000000

/-- The state right after power-on reset satisfies all of these. -/
def Obligations.ResetStateIsWithinBounds : Prop :=
  MemoryCanonical State.reset ∧ HeatBounded State.reset ∧ PartPagesClear State.reset ∧
    SettingsInRange State.reset.cbm.settings ∧ Bounded State.reset ∧ CountsBounded State.reset ∧
    State.reset.env.tonePhase < 1000000

/-! ## Statements made of the above -/

/-- SCAN_PASS and REPEAT_TIMER_EXPIRY (R113, R114, R121, R122); the clock, log 5. -/
def Obligations.KeysArePolled : Prop :=
  ScanPassDebounces ∧ RepeatTimerExpires

/-- A position that becomes DOWN or OPEN (R115 to R118, R121); presses of the same pass, log 17. -/
def Obligations.KeysAreAdmittedAndReleased : Prop :=
  KeyAdmission ∧ KeyRelease

/-- A key event from its making to the start of its processing (R119, R120, R123, R124). -/
def Obligations.KeyEventsAreProcessed : Prop :=
  KeyEventOffered ∧ KeyProcessingBegins

/-- A plan and its pulse times (R157 to R160, R162). -/
def Obligations.PlansAndPulses : Prop :=
  PlanOfARow ∧ PulseTimes

/-- A phase from its start to its end (R144, R162 to R164, R172, R177); the clock, log 5; the dot data after it, log 23. -/
def Obligations.PhasesBurn : Prop :=
  PhaseStarts ∧ SegmentPulsesEnd ∧ PhaseEnds

/-- Heat, cooling ticks and pacing (R172, R173, R176, R179); the clock, log 5. -/
def Obligations.HeatIsGainedAndLost : Prop :=
  HeatGainAndCooling ∧ CoolingAndPacing

/-- Readings (R168, R169, R171); the levels, log 10, the clock, log 5, a stopped reading timer, log 6. -/
def Obligations.ReadingsOfSupplyAndHead : Prop :=
  ReadingsAreTaken ∧ TimedReadings

/-- What every step keeps of the heat estimates, the settings shadows, the line, the stream, the keyboard, the printer, the paper position, the dirty set, the arbiter's counts and the phase of the tone out. -/
def Obligations.EveryStepKeepsItsBounds : Prop :=
  EveryStepKeepsHeatInRange ∧ EveryStepKeepsSettingsInRange ∧ EveryStepKeepsLineStreamAndKeysBounded ∧ EveryStepKeepsPrinterAndPortBounded ∧ EveryStepKeepsTonePhaseContinuous
end

