-- ==== Sys2Proof/Laws/State.lean ====
section
/-! SUPPORT. One lemma per field per update of State, each true by rfl, so that no proof unfolds a record update. -/

namespace Sys2Proof.Machine

open Sys2Proof

@[simp] theorem withPending_pending (s : State) (x : List Instr) : (s.withPending x).pending = x := rfl
@[simp] theorem withPending_env (s : State) (x : List Instr) : (s.withPending x).env = s.env := rfl
@[simp] theorem withPending_mem (s : State) (x : List Instr) : (s.withPending x).mem = s.mem := rfl
@[simp] theorem withPending_mp (s : State) (x : List Instr) : (s.withPending x).mp = s.mp := rfl
@[simp] theorem withPending_cbm (s : State) (x : List Instr) : (s.withPending x).cbm = s.cbm := rfl
@[simp] theorem withPending_lu (s : State) (x : List Instr) : (s.withPending x).lu = s.lu := rfl
@[simp] theorem withPending_su (s : State) (x : List Instr) : (s.withPending x).su = s.su := rfl
@[simp] theorem withPending_ks (s : State) (x : List Instr) : (s.withPending x).ks = s.ks := rfl
@[simp] theorem withPending_ps (s : State) (x : List Instr) : (s.withPending x).ps = s.ps := rfl
@[simp] theorem withPending_sp (s : State) (x : List Instr) : (s.withPending x).sp = s.sp := rfl
@[simp] theorem withPending_hm (s : State) (x : List Instr) : (s.withPending x).hm = s.hm := rfl
@[simp] theorem withPending_sm (s : State) (x : List Instr) : (s.withPending x).sm = s.sm := rfl
@[simp] theorem withPending_pd (s : State) (x : List Instr) : (s.withPending x).pd = s.pd := rfl

@[simp] theorem withEnv_pending (s : State) (x : Surroundings) : (s.withEnv x).pending = s.pending := rfl
@[simp] theorem withEnv_env (s : State) (x : Surroundings) : (s.withEnv x).env = x := rfl
@[simp] theorem withEnv_mem (s : State) (x : Surroundings) : (s.withEnv x).mem = s.mem := rfl
@[simp] theorem withEnv_mp (s : State) (x : Surroundings) : (s.withEnv x).mp = s.mp := rfl
@[simp] theorem withEnv_cbm (s : State) (x : Surroundings) : (s.withEnv x).cbm = s.cbm := rfl
@[simp] theorem withEnv_lu (s : State) (x : Surroundings) : (s.withEnv x).lu = s.lu := rfl
@[simp] theorem withEnv_su (s : State) (x : Surroundings) : (s.withEnv x).su = s.su := rfl
@[simp] theorem withEnv_ks (s : State) (x : Surroundings) : (s.withEnv x).ks = s.ks := rfl
@[simp] theorem withEnv_ps (s : State) (x : Surroundings) : (s.withEnv x).ps = s.ps := rfl
@[simp] theorem withEnv_sp (s : State) (x : Surroundings) : (s.withEnv x).sp = s.sp := rfl
@[simp] theorem withEnv_hm (s : State) (x : Surroundings) : (s.withEnv x).hm = s.hm := rfl
@[simp] theorem withEnv_sm (s : State) (x : Surroundings) : (s.withEnv x).sm = s.sm := rfl
@[simp] theorem withEnv_pd (s : State) (x : Surroundings) : (s.withEnv x).pd = s.pd := rfl

@[simp] theorem withMem_pending (s : State) (x : Memory) : (s.withMem x).pending = s.pending := rfl
@[simp] theorem withMem_env (s : State) (x : Memory) : (s.withMem x).env = s.env := rfl
@[simp] theorem withMem_mem (s : State) (x : Memory) : (s.withMem x).mem = x := rfl
@[simp] theorem withMem_mp (s : State) (x : Memory) : (s.withMem x).mp = s.mp := rfl
@[simp] theorem withMem_cbm (s : State) (x : Memory) : (s.withMem x).cbm = s.cbm := rfl
@[simp] theorem withMem_lu (s : State) (x : Memory) : (s.withMem x).lu = s.lu := rfl
@[simp] theorem withMem_su (s : State) (x : Memory) : (s.withMem x).su = s.su := rfl
@[simp] theorem withMem_ks (s : State) (x : Memory) : (s.withMem x).ks = s.ks := rfl
@[simp] theorem withMem_ps (s : State) (x : Memory) : (s.withMem x).ps = s.ps := rfl
@[simp] theorem withMem_sp (s : State) (x : Memory) : (s.withMem x).sp = s.sp := rfl
@[simp] theorem withMem_hm (s : State) (x : Memory) : (s.withMem x).hm = s.hm := rfl
@[simp] theorem withMem_sm (s : State) (x : Memory) : (s.withMem x).sm = s.sm := rfl
@[simp] theorem withMem_pd (s : State) (x : Memory) : (s.withMem x).pd = s.pd := rfl

@[simp] theorem withMp_pending (s : State) (x : MemoryPath) : (s.withMp x).pending = s.pending := rfl
@[simp] theorem withMp_env (s : State) (x : MemoryPath) : (s.withMp x).env = s.env := rfl
@[simp] theorem withMp_mem (s : State) (x : MemoryPath) : (s.withMp x).mem = s.mem := rfl
@[simp] theorem withMp_mp (s : State) (x : MemoryPath) : (s.withMp x).mp = x := rfl
@[simp] theorem withMp_cbm (s : State) (x : MemoryPath) : (s.withMp x).cbm = s.cbm := rfl
@[simp] theorem withMp_lu (s : State) (x : MemoryPath) : (s.withMp x).lu = s.lu := rfl
@[simp] theorem withMp_su (s : State) (x : MemoryPath) : (s.withMp x).su = s.su := rfl
@[simp] theorem withMp_ks (s : State) (x : MemoryPath) : (s.withMp x).ks = s.ks := rfl
@[simp] theorem withMp_ps (s : State) (x : MemoryPath) : (s.withMp x).ps = s.ps := rfl
@[simp] theorem withMp_sp (s : State) (x : MemoryPath) : (s.withMp x).sp = s.sp := rfl
@[simp] theorem withMp_hm (s : State) (x : MemoryPath) : (s.withMp x).hm = s.hm := rfl
@[simp] theorem withMp_sm (s : State) (x : MemoryPath) : (s.withMp x).sm = s.sm := rfl
@[simp] theorem withMp_pd (s : State) (x : MemoryPath) : (s.withMp x).pd = s.pd := rfl

@[simp] theorem withCbm_pending (s : State) (x : ControlBlock) : (s.withCbm x).pending = s.pending := rfl
@[simp] theorem withCbm_env (s : State) (x : ControlBlock) : (s.withCbm x).env = s.env := rfl
@[simp] theorem withCbm_mem (s : State) (x : ControlBlock) : (s.withCbm x).mem = s.mem := rfl
@[simp] theorem withCbm_mp (s : State) (x : ControlBlock) : (s.withCbm x).mp = s.mp := rfl
@[simp] theorem withCbm_cbm (s : State) (x : ControlBlock) : (s.withCbm x).cbm = x := rfl
@[simp] theorem withCbm_lu (s : State) (x : ControlBlock) : (s.withCbm x).lu = s.lu := rfl
@[simp] theorem withCbm_su (s : State) (x : ControlBlock) : (s.withCbm x).su = s.su := rfl
@[simp] theorem withCbm_ks (s : State) (x : ControlBlock) : (s.withCbm x).ks = s.ks := rfl
@[simp] theorem withCbm_ps (s : State) (x : ControlBlock) : (s.withCbm x).ps = s.ps := rfl
@[simp] theorem withCbm_sp (s : State) (x : ControlBlock) : (s.withCbm x).sp = s.sp := rfl
@[simp] theorem withCbm_hm (s : State) (x : ControlBlock) : (s.withCbm x).hm = s.hm := rfl
@[simp] theorem withCbm_sm (s : State) (x : ControlBlock) : (s.withCbm x).sm = s.sm := rfl
@[simp] theorem withCbm_pd (s : State) (x : ControlBlock) : (s.withCbm x).pd = s.pd := rfl

@[simp] theorem withLu_pending (s : State) (x : LineUnit) : (s.withLu x).pending = s.pending := rfl
@[simp] theorem withLu_env (s : State) (x : LineUnit) : (s.withLu x).env = s.env := rfl
@[simp] theorem withLu_mem (s : State) (x : LineUnit) : (s.withLu x).mem = s.mem := rfl
@[simp] theorem withLu_mp (s : State) (x : LineUnit) : (s.withLu x).mp = s.mp := rfl
@[simp] theorem withLu_cbm (s : State) (x : LineUnit) : (s.withLu x).cbm = s.cbm := rfl
@[simp] theorem withLu_lu (s : State) (x : LineUnit) : (s.withLu x).lu = x := rfl
@[simp] theorem withLu_su (s : State) (x : LineUnit) : (s.withLu x).su = s.su := rfl
@[simp] theorem withLu_ks (s : State) (x : LineUnit) : (s.withLu x).ks = s.ks := rfl
@[simp] theorem withLu_ps (s : State) (x : LineUnit) : (s.withLu x).ps = s.ps := rfl
@[simp] theorem withLu_sp (s : State) (x : LineUnit) : (s.withLu x).sp = s.sp := rfl
@[simp] theorem withLu_hm (s : State) (x : LineUnit) : (s.withLu x).hm = s.hm := rfl
@[simp] theorem withLu_sm (s : State) (x : LineUnit) : (s.withLu x).sm = s.sm := rfl
@[simp] theorem withLu_pd (s : State) (x : LineUnit) : (s.withLu x).pd = s.pd := rfl

@[simp] theorem withSu_pending (s : State) (x : StreamUnit) : (s.withSu x).pending = s.pending := rfl
@[simp] theorem withSu_env (s : State) (x : StreamUnit) : (s.withSu x).env = s.env := rfl
@[simp] theorem withSu_mem (s : State) (x : StreamUnit) : (s.withSu x).mem = s.mem := rfl
@[simp] theorem withSu_mp (s : State) (x : StreamUnit) : (s.withSu x).mp = s.mp := rfl
@[simp] theorem withSu_cbm (s : State) (x : StreamUnit) : (s.withSu x).cbm = s.cbm := rfl
@[simp] theorem withSu_lu (s : State) (x : StreamUnit) : (s.withSu x).lu = s.lu := rfl
@[simp] theorem withSu_su (s : State) (x : StreamUnit) : (s.withSu x).su = x := rfl
@[simp] theorem withSu_ks (s : State) (x : StreamUnit) : (s.withSu x).ks = s.ks := rfl
@[simp] theorem withSu_ps (s : State) (x : StreamUnit) : (s.withSu x).ps = s.ps := rfl
@[simp] theorem withSu_sp (s : State) (x : StreamUnit) : (s.withSu x).sp = s.sp := rfl
@[simp] theorem withSu_hm (s : State) (x : StreamUnit) : (s.withSu x).hm = s.hm := rfl
@[simp] theorem withSu_sm (s : State) (x : StreamUnit) : (s.withSu x).sm = s.sm := rfl
@[simp] theorem withSu_pd (s : State) (x : StreamUnit) : (s.withSu x).pd = s.pd := rfl

@[simp] theorem withKs_pending (s : State) (x : KeyScanner) : (s.withKs x).pending = s.pending := rfl
@[simp] theorem withKs_env (s : State) (x : KeyScanner) : (s.withKs x).env = s.env := rfl
@[simp] theorem withKs_mem (s : State) (x : KeyScanner) : (s.withKs x).mem = s.mem := rfl
@[simp] theorem withKs_mp (s : State) (x : KeyScanner) : (s.withKs x).mp = s.mp := rfl
@[simp] theorem withKs_cbm (s : State) (x : KeyScanner) : (s.withKs x).cbm = s.cbm := rfl
@[simp] theorem withKs_lu (s : State) (x : KeyScanner) : (s.withKs x).lu = s.lu := rfl
@[simp] theorem withKs_su (s : State) (x : KeyScanner) : (s.withKs x).su = s.su := rfl
@[simp] theorem withKs_ks (s : State) (x : KeyScanner) : (s.withKs x).ks = x := rfl
@[simp] theorem withKs_ps (s : State) (x : KeyScanner) : (s.withKs x).ps = s.ps := rfl
@[simp] theorem withKs_sp (s : State) (x : KeyScanner) : (s.withKs x).sp = s.sp := rfl
@[simp] theorem withKs_hm (s : State) (x : KeyScanner) : (s.withKs x).hm = s.hm := rfl
@[simp] theorem withKs_sm (s : State) (x : KeyScanner) : (s.withKs x).sm = s.sm := rfl
@[simp] theorem withKs_pd (s : State) (x : KeyScanner) : (s.withKs x).pd = s.pd := rfl

@[simp] theorem withPs_pending (s : State) (x : PrintSequencer) : (s.withPs x).pending = s.pending := rfl
@[simp] theorem withPs_env (s : State) (x : PrintSequencer) : (s.withPs x).env = s.env := rfl
@[simp] theorem withPs_mem (s : State) (x : PrintSequencer) : (s.withPs x).mem = s.mem := rfl
@[simp] theorem withPs_mp (s : State) (x : PrintSequencer) : (s.withPs x).mp = s.mp := rfl
@[simp] theorem withPs_cbm (s : State) (x : PrintSequencer) : (s.withPs x).cbm = s.cbm := rfl
@[simp] theorem withPs_lu (s : State) (x : PrintSequencer) : (s.withPs x).lu = s.lu := rfl
@[simp] theorem withPs_su (s : State) (x : PrintSequencer) : (s.withPs x).su = s.su := rfl
@[simp] theorem withPs_ks (s : State) (x : PrintSequencer) : (s.withPs x).ks = s.ks := rfl
@[simp] theorem withPs_ps (s : State) (x : PrintSequencer) : (s.withPs x).ps = x := rfl
@[simp] theorem withPs_sp (s : State) (x : PrintSequencer) : (s.withPs x).sp = s.sp := rfl
@[simp] theorem withPs_hm (s : State) (x : PrintSequencer) : (s.withPs x).hm = s.hm := rfl
@[simp] theorem withPs_sm (s : State) (x : PrintSequencer) : (s.withPs x).sm = s.sm := rfl
@[simp] theorem withPs_pd (s : State) (x : PrintSequencer) : (s.withPs x).pd = s.pd := rfl

@[simp] theorem withSp_pending (s : State) (x : StrobePlanner) : (s.withSp x).pending = s.pending := rfl
@[simp] theorem withSp_env (s : State) (x : StrobePlanner) : (s.withSp x).env = s.env := rfl
@[simp] theorem withSp_mem (s : State) (x : StrobePlanner) : (s.withSp x).mem = s.mem := rfl
@[simp] theorem withSp_mp (s : State) (x : StrobePlanner) : (s.withSp x).mp = s.mp := rfl
@[simp] theorem withSp_cbm (s : State) (x : StrobePlanner) : (s.withSp x).cbm = s.cbm := rfl
@[simp] theorem withSp_lu (s : State) (x : StrobePlanner) : (s.withSp x).lu = s.lu := rfl
@[simp] theorem withSp_su (s : State) (x : StrobePlanner) : (s.withSp x).su = s.su := rfl
@[simp] theorem withSp_ks (s : State) (x : StrobePlanner) : (s.withSp x).ks = s.ks := rfl
@[simp] theorem withSp_ps (s : State) (x : StrobePlanner) : (s.withSp x).ps = s.ps := rfl
@[simp] theorem withSp_sp (s : State) (x : StrobePlanner) : (s.withSp x).sp = x := rfl
@[simp] theorem withSp_hm (s : State) (x : StrobePlanner) : (s.withSp x).hm = s.hm := rfl
@[simp] theorem withSp_sm (s : State) (x : StrobePlanner) : (s.withSp x).sm = s.sm := rfl
@[simp] theorem withSp_pd (s : State) (x : StrobePlanner) : (s.withSp x).pd = s.pd := rfl

@[simp] theorem withHm_pending (s : State) (x : HeatModel) : (s.withHm x).pending = s.pending := rfl
@[simp] theorem withHm_env (s : State) (x : HeatModel) : (s.withHm x).env = s.env := rfl
@[simp] theorem withHm_mem (s : State) (x : HeatModel) : (s.withHm x).mem = s.mem := rfl
@[simp] theorem withHm_mp (s : State) (x : HeatModel) : (s.withHm x).mp = s.mp := rfl
@[simp] theorem withHm_cbm (s : State) (x : HeatModel) : (s.withHm x).cbm = s.cbm := rfl
@[simp] theorem withHm_lu (s : State) (x : HeatModel) : (s.withHm x).lu = s.lu := rfl
@[simp] theorem withHm_su (s : State) (x : HeatModel) : (s.withHm x).su = s.su := rfl
@[simp] theorem withHm_ks (s : State) (x : HeatModel) : (s.withHm x).ks = s.ks := rfl
@[simp] theorem withHm_ps (s : State) (x : HeatModel) : (s.withHm x).ps = s.ps := rfl
@[simp] theorem withHm_sp (s : State) (x : HeatModel) : (s.withHm x).sp = s.sp := rfl
@[simp] theorem withHm_hm (s : State) (x : HeatModel) : (s.withHm x).hm = x := rfl
@[simp] theorem withHm_sm (s : State) (x : HeatModel) : (s.withHm x).sm = s.sm := rfl
@[simp] theorem withHm_pd (s : State) (x : HeatModel) : (s.withHm x).pd = s.pd := rfl

@[simp] theorem withSm_pending (s : State) (x : SupplyMonitor) : (s.withSm x).pending = s.pending := rfl
@[simp] theorem withSm_env (s : State) (x : SupplyMonitor) : (s.withSm x).env = s.env := rfl
@[simp] theorem withSm_mem (s : State) (x : SupplyMonitor) : (s.withSm x).mem = s.mem := rfl
@[simp] theorem withSm_mp (s : State) (x : SupplyMonitor) : (s.withSm x).mp = s.mp := rfl
@[simp] theorem withSm_cbm (s : State) (x : SupplyMonitor) : (s.withSm x).cbm = s.cbm := rfl
@[simp] theorem withSm_lu (s : State) (x : SupplyMonitor) : (s.withSm x).lu = s.lu := rfl
@[simp] theorem withSm_su (s : State) (x : SupplyMonitor) : (s.withSm x).su = s.su := rfl
@[simp] theorem withSm_ks (s : State) (x : SupplyMonitor) : (s.withSm x).ks = s.ks := rfl
@[simp] theorem withSm_ps (s : State) (x : SupplyMonitor) : (s.withSm x).ps = s.ps := rfl
@[simp] theorem withSm_sp (s : State) (x : SupplyMonitor) : (s.withSm x).sp = s.sp := rfl
@[simp] theorem withSm_hm (s : State) (x : SupplyMonitor) : (s.withSm x).hm = s.hm := rfl
@[simp] theorem withSm_sm (s : State) (x : SupplyMonitor) : (s.withSm x).sm = x := rfl
@[simp] theorem withSm_pd (s : State) (x : SupplyMonitor) : (s.withSm x).pd = s.pd := rfl

@[simp] theorem withPd_pending (s : State) (x : PaperDrive) : (s.withPd x).pending = s.pending := rfl
@[simp] theorem withPd_env (s : State) (x : PaperDrive) : (s.withPd x).env = s.env := rfl
@[simp] theorem withPd_mem (s : State) (x : PaperDrive) : (s.withPd x).mem = s.mem := rfl
@[simp] theorem withPd_mp (s : State) (x : PaperDrive) : (s.withPd x).mp = s.mp := rfl
@[simp] theorem withPd_cbm (s : State) (x : PaperDrive) : (s.withPd x).cbm = s.cbm := rfl
@[simp] theorem withPd_lu (s : State) (x : PaperDrive) : (s.withPd x).lu = s.lu := rfl
@[simp] theorem withPd_su (s : State) (x : PaperDrive) : (s.withPd x).su = s.su := rfl
@[simp] theorem withPd_ks (s : State) (x : PaperDrive) : (s.withPd x).ks = s.ks := rfl
@[simp] theorem withPd_ps (s : State) (x : PaperDrive) : (s.withPd x).ps = s.ps := rfl
@[simp] theorem withPd_sp (s : State) (x : PaperDrive) : (s.withPd x).sp = s.sp := rfl
@[simp] theorem withPd_hm (s : State) (x : PaperDrive) : (s.withPd x).hm = s.hm := rfl
@[simp] theorem withPd_sm (s : State) (x : PaperDrive) : (s.withPd x).sm = s.sm := rfl
@[simp] theorem withPd_pd (s : State) (x : PaperDrive) : (s.withPd x).pd = x := rfl

end Sys2Proof.Machine
end

