-- ==== Sys2Proof/Laws/FramesBase.lean ====
section
/-! SUPPORT. Frames: for each operation of the shared operations over RAM, flags, clock, paper, readings, heat and strobes, the parts of the state it leaves as they were. -/

set_option linter.unusedTactic false
set_option linter.unreachableTactic false
set_option linter.unnecessarySeqFocus false

namespace Sys2Proof.Machine

open Sys2Proof

/-- An input used at a reading moves neither the clock nor the tone's phase. -/
@[simp] theorem dropSense_frame (e : Surroundings) :
    (dropSense e).now = e.now ∧ (dropSense e).tonePhase = e.tonePhase ∧ (dropSense e).orderIn = e.orderIn
    ∧ (dropSense e).orderUsed = e.orderUsed := by
  unfold dropSense; split <;> simp

/-- An order choice used moves neither the clock nor the tone's phase. -/
@[simp] theorem dropOrder_frame (e : Surroundings) :
    (dropOrder e).now = e.now ∧ (dropOrder e).tonePhase = e.tonePhase ∧ (dropOrder e).senseIn = e.senseIn
    ∧ (dropOrder e).senseUsed = e.senseUsed := by
  unfold dropOrder; split <;> simp

@[simp] theorem setFlag_frame (f : Flag) (s : State) :
    (setFlag f s).pending = s.pending ∧ (setFlag f s).env = s.env ∧ (setFlag f s).mem = s.mem ∧ (setFlag f s).mp =
    s.mp ∧ (setFlag f s).lu = s.lu ∧ (setFlag f s).su = s.su ∧ (setFlag f s).ks = s.ks ∧ (setFlag f s).ps = s.ps ∧
    (setFlag f s).sp = s.sp ∧ (setFlag f s).hm = s.hm ∧ (setFlag f s).sm = s.sm ∧ (setFlag f s).pd = s.pd ∧ (setFlag
    f s).cbm.geometry = s.cbm.geometry ∧ (setFlag f s).cbm.settings = s.cbm.settings ∧ (setFlag f s).cbm.standby =
    s.cbm.standby ∧ (setFlag f s).cbm.slotBusy = s.cbm.slotBusy := by
  refine ⟨?_, ?_, ?_, ?_, ?_, ?_, ?_, ?_, ?_, ?_, ?_, ?_, ?_, ?_, ?_, ?_⟩ <;> (unfold setFlag; (repeat' first | split | dsimp only) <;> simp)

@[simp] theorem writeByte_frame (a : Addr) (v : Byte) (s : State) :
    (writeByte a v s).pending = s.pending ∧ (writeByte a v s).env = s.env ∧ (writeByte a v s).mp = s.mp ∧ (writeByte
    a v s).cbm = s.cbm ∧ (writeByte a v s).lu = s.lu ∧ (writeByte a v s).su = s.su ∧ (writeByte a v s).ks = s.ks ∧
    (writeByte a v s).ps = s.ps ∧ (writeByte a v s).sp = s.sp ∧ (writeByte a v s).hm = s.hm ∧ (writeByte a v s).sm =
    s.sm ∧ (writeByte a v s).pd = s.pd := by
  refine ⟨?_, ?_, ?_, ?_, ?_, ?_, ?_, ?_, ?_, ?_, ?_, ?_⟩ <;> (unfold writeByte; (repeat' first | split | dsimp only) <;> simp)

@[simp] theorem clockTo_frame (due : Nat) (s : State) :
    (clockTo due s).pending = s.pending ∧ (clockTo due s).mem = s.mem ∧ (clockTo due s).mp = s.mp ∧ (clockTo due
    s).cbm = s.cbm ∧ (clockTo due s).lu = s.lu ∧ (clockTo due s).su = s.su ∧ (clockTo due s).ks = s.ks ∧ (clockTo
    due s).ps = s.ps ∧ (clockTo due s).sp = s.sp ∧ (clockTo due s).hm = s.hm ∧ (clockTo due s).sm = s.sm ∧ (clockTo
    due s).pd = s.pd := by
  refine ⟨?_, ?_, ?_, ?_, ?_, ?_, ?_, ?_, ?_, ?_, ?_, ?_⟩ <;> (unfold clockTo; (repeat' first | split | dsimp only) <;> simp)

@[simp] theorem addDirty_frame (joins : Nat → Bool) (s : State) :
    (addDirty joins s).pending = s.pending ∧ (addDirty joins s).env = s.env ∧ (addDirty joins s).mem = s.mem ∧
    (addDirty joins s).mp = s.mp ∧ (addDirty joins s).lu = s.lu ∧ (addDirty joins s).su = s.su ∧ (addDirty joins
    s).ks = s.ks ∧ (addDirty joins s).ps = s.ps ∧ (addDirty joins s).sp = s.sp ∧ (addDirty joins s).hm = s.hm ∧
    (addDirty joins s).sm = s.sm ∧ (addDirty joins s).pd = s.pd ∧ (addDirty joins s).cbm.geometry = s.cbm.geometry ∧
    (addDirty joins s).cbm.settings = s.cbm.settings ∧ (addDirty joins s).cbm.standby = s.cbm.standby ∧ (addDirty
    joins s).cbm.slotBusy = s.cbm.slotBusy := by
  refine ⟨?_, ?_, ?_, ?_, ?_, ?_, ?_, ?_, ?_, ?_, ?_, ?_, ?_, ?_, ?_, ?_⟩ <;> (unfold addDirty; (repeat' first | split | dsimp only) <;> simp)

@[simp] theorem mirror_frame (before s : State) :
    (mirror before s).pending = s.pending ∧ (mirror before s).env = s.env ∧ (mirror before s).mem = s.mem ∧ (mirror
    before s).mp = s.mp ∧ (mirror before s).lu = s.lu ∧ (mirror before s).su = s.su ∧ (mirror before s).ks = s.ks ∧
    (mirror before s).ps = s.ps ∧ (mirror before s).sp = s.sp ∧ (mirror before s).hm = s.hm ∧ (mirror before s).sm =
    s.sm ∧ (mirror before s).pd = s.pd ∧ (mirror before s).cbm.geometry = s.cbm.geometry ∧ (mirror before
    s).cbm.settings = s.cbm.settings ∧ (mirror before s).cbm.standby = s.cbm.standby ∧ (mirror before
    s).cbm.slotBusy = s.cbm.slotBusy := by
  refine ⟨?_, ?_, ?_, ?_, ?_, ?_, ?_, ?_, ?_, ?_, ?_, ?_, ?_, ?_, ?_, ?_⟩ <;> (unfold mirror; (repeat' first | split | dsimp only) <;> simp)

@[simp] theorem countInternal_frame (r : Requester) (s : State) :
    (countInternal r s).pending = s.pending ∧ (countInternal r s).env = s.env ∧ (countInternal r s).mem = s.mem ∧
    (countInternal r s).cbm = s.cbm ∧ (countInternal r s).lu = s.lu ∧ (countInternal r s).su = s.su ∧ (countInternal
    r s).ks = s.ks ∧ (countInternal r s).ps = s.ps ∧ (countInternal r s).sp = s.sp ∧ (countInternal r s).hm = s.hm ∧
    (countInternal r s).sm = s.sm ∧ (countInternal r s).pd = s.pd ∧ (countInternal r s).mp.windows = s.mp.windows ∧
    (countInternal r s).mp.hostWaiting = s.mp.hostWaiting ∧ (countInternal r s).mp.resetHeld = s.mp.resetHeld ∧
    (countInternal r s).mp.straps = s.mp.straps := by
  refine ⟨?_, ?_, ?_, ?_, ?_, ?_, ?_, ?_, ?_, ?_, ?_, ?_, ?_, ?_, ?_, ?_⟩ <;> (unfold countInternal; (repeat' first | split | dsimp only) <;> simp)

@[simp] theorem countHost_frame (s : State) :
    (countHost s).pending = s.pending ∧ (countHost s).env = s.env ∧ (countHost s).mem = s.mem ∧ (countHost s).cbm =
    s.cbm ∧ (countHost s).lu = s.lu ∧ (countHost s).su = s.su ∧ (countHost s).ks = s.ks ∧ (countHost s).ps = s.ps ∧
    (countHost s).sp = s.sp ∧ (countHost s).hm = s.hm ∧ (countHost s).sm = s.sm ∧ (countHost s).pd = s.pd ∧
    (countHost s).mp.windows = s.mp.windows ∧ (countHost s).mp.resetHeld = s.mp.resetHeld ∧ (countHost s).mp.straps
    = s.mp.straps := by
  refine ⟨?_, ?_, ?_, ?_, ?_, ?_, ?_, ?_, ?_, ?_, ?_, ?_, ?_, ?_, ?_⟩ <;> (unfold countHost; (repeat' first | split | dsimp only) <;> simp)

@[simp] theorem presentPs_frame (s : State) :
    (presentPs s).pending = s.pending ∧ (presentPs s).env = s.env ∧ (presentPs s).mem = s.mem ∧ (presentPs s).mp =
    s.mp ∧ (presentPs s).cbm = s.cbm ∧ (presentPs s).lu = s.lu ∧ (presentPs s).su = s.su ∧ (presentPs s).ks = s.ks ∧
    (presentPs s).sp = s.sp ∧ (presentPs s).hm = s.hm ∧ (presentPs s).sm = s.sm ∧ (presentPs s).pd = s.pd := by
  refine ⟨?_, ?_, ?_, ?_, ?_, ?_, ?_, ?_, ?_, ?_, ?_, ?_⟩ <;> (unfold presentPs; (repeat' first | split | dsimp only) <;> simp)

@[simp] theorem presentCbm_frame (s : State) :
    (presentCbm s).pending = s.pending ∧ (presentCbm s).env = s.env ∧ (presentCbm s).mem = s.mem ∧ (presentCbm s).mp
    = s.mp ∧ (presentCbm s).lu = s.lu ∧ (presentCbm s).su = s.su ∧ (presentCbm s).ks = s.ks ∧ (presentCbm s).ps =
    s.ps ∧ (presentCbm s).sp = s.sp ∧ (presentCbm s).hm = s.hm ∧ (presentCbm s).sm = s.sm ∧ (presentCbm s).pd = s.pd
    ∧ (presentCbm s).cbm.geometry = s.cbm.geometry ∧ (presentCbm s).cbm.settings = s.cbm.settings ∧ (presentCbm
    s).cbm.standby = s.cbm.standby ∧ (presentCbm s).cbm.slotBusy = s.cbm.slotBusy := by
  refine ⟨?_, ?_, ?_, ?_, ?_, ?_, ?_, ?_, ?_, ?_, ?_, ?_, ?_, ?_, ?_, ?_⟩ <;> (unfold presentCbm; (repeat' first | split | dsimp only) <;> simp)

@[simp] theorem setEngine_frame (e : Engine) (s : State) :
    (setEngine e s).pending = s.pending ∧ (setEngine e s).env = s.env ∧ (setEngine e s).mem = s.mem ∧ (setEngine e
    s).mp = s.mp ∧ (setEngine e s).cbm = s.cbm ∧ (setEngine e s).lu = s.lu ∧ (setEngine e s).su = s.su ∧ (setEngine
    e s).ks = s.ks ∧ (setEngine e s).sp = s.sp ∧ (setEngine e s).hm = s.hm ∧ (setEngine e s).sm = s.sm ∧ (setEngine
    e s).pd = s.pd := by
  refine ⟨?_, ?_, ?_, ?_, ?_, ?_, ?_, ?_, ?_, ?_, ?_, ?_⟩ <;> (unfold setEngine; (repeat' first | split | dsimp only) <;> simp)

@[simp] theorem beginStep_frame (s : State) :
    (beginStep s).pending = s.pending ∧ (beginStep s).env = s.env ∧ (beginStep s).mem = s.mem ∧ (beginStep s).mp =
    s.mp ∧ (beginStep s).cbm = s.cbm ∧ (beginStep s).su = s.su ∧ (beginStep s).ks = s.ks ∧ (beginStep s).sp = s.sp ∧
    (beginStep s).hm = s.hm ∧ (beginStep s).sm = s.sm ∧ (beginStep s).pd.position = s.pd.position := by
  refine ⟨?_, ?_, ?_, ?_, ?_, ?_, ?_, ?_, ?_, ?_, ?_⟩ <;> (unfold beginStep; (repeat' first | split | dsimp only) <;> simp)

@[simp] theorem requestStep_frame (s : State) :
    (requestStep s).pending = s.pending ∧ (requestStep s).env = s.env ∧ (requestStep s).mem = s.mem ∧ (requestStep
    s).mp = s.mp ∧ (requestStep s).cbm = s.cbm ∧ (requestStep s).su = s.su ∧ (requestStep s).ks = s.ks ∧
    (requestStep s).sp = s.sp ∧ (requestStep s).hm = s.hm ∧ (requestStep s).sm = s.sm ∧ (requestStep s).pd.position
    = s.pd.position := by
  refine ⟨?_, ?_, ?_, ?_, ?_, ?_, ?_, ?_, ?_, ?_, ?_⟩ <;> (unfold requestStep; (repeat' first | split | dsimp only) <;> simp)

@[simp] theorem reattempt_frame (before s : State) :
    (reattempt before s).pending = s.pending ∧ (reattempt before s).env = s.env ∧ (reattempt before s).mem = s.mem ∧
    (reattempt before s).mp = s.mp ∧ (reattempt before s).cbm = s.cbm ∧ (reattempt before s).su = s.su ∧ (reattempt
    before s).ks = s.ks ∧ (reattempt before s).sp = s.sp ∧ (reattempt before s).hm = s.hm ∧ (reattempt before s).sm
    = s.sm ∧ (reattempt before s).pd.position = s.pd.position := by
  refine ⟨?_, ?_, ?_, ?_, ?_, ?_, ?_, ?_, ?_, ?_, ?_⟩ <;> (unfold reattempt; (repeat' first | split | dsimp only) <;> simp)

@[simp] theorem settle_frame (before s : State) :
    (settle before s).pending = s.pending ∧ (settle before s).env = s.env ∧ (settle before s).mem = s.mem ∧ (settle
    before s).mp = s.mp ∧ (settle before s).su = s.su ∧ (settle before s).ks = s.ks ∧ (settle before s).sp = s.sp ∧
    (settle before s).hm = s.hm ∧ (settle before s).sm = s.sm ∧ (settle before s).cbm.geometry = s.cbm.geometry ∧
    (settle before s).cbm.settings = s.cbm.settings ∧ (settle before s).cbm.standby = s.cbm.standby ∧ (settle before
    s).cbm.slotBusy = s.cbm.slotBusy ∧ (settle before s).pd.position = s.pd.position := by
  refine ⟨?_, ?_, ?_, ?_, ?_, ?_, ?_, ?_, ?_, ?_, ?_, ?_, ?_, ?_⟩ <;> (unfold settle; (repeat' first | split | dsimp only) <;> simp)

@[simp] theorem judgeSupply_frame (v : Nat) (s : State) :
    (judgeSupply v s).pending = s.pending ∧ (judgeSupply v s).env = s.env ∧ (judgeSupply v s).mem = s.mem ∧
    (judgeSupply v s).mp = s.mp ∧ (judgeSupply v s).lu = s.lu ∧ (judgeSupply v s).su = s.su ∧ (judgeSupply v s).ks =
    s.ks ∧ (judgeSupply v s).ps = s.ps ∧ (judgeSupply v s).sp = s.sp ∧ (judgeSupply v s).hm = s.hm ∧ (judgeSupply v
    s).sm = s.sm ∧ (judgeSupply v s).pd = s.pd ∧ (judgeSupply v s).cbm.geometry = s.cbm.geometry ∧ (judgeSupply v
    s).cbm.settings = s.cbm.settings ∧ (judgeSupply v s).cbm.standby = s.cbm.standby ∧ (judgeSupply v
    s).cbm.slotBusy = s.cbm.slotBusy := by
  refine ⟨?_, ?_, ?_, ?_, ?_, ?_, ?_, ?_, ?_, ?_, ?_, ?_, ?_, ?_, ?_, ?_⟩ <;> (unfold judgeSupply; (repeat' first | split | dsimp only) <;> simp)

@[simp] theorem takeReading_frame (s : State) :
    (takeReading s).pending = s.pending ∧ (takeReading s).mem = s.mem ∧ (takeReading s).mp = s.mp ∧ (takeReading
    s).lu = s.lu ∧ (takeReading s).su = s.su ∧ (takeReading s).ks = s.ks ∧ (takeReading s).ps = s.ps ∧ (takeReading
    s).sp = s.sp ∧ (takeReading s).hm = s.hm ∧ (takeReading s).pd = s.pd ∧ (takeReading s).env.now = s.env.now ∧
    (takeReading s).env.tonePhase = s.env.tonePhase ∧ (takeReading s).cbm.geometry = s.cbm.geometry ∧ (takeReading
    s).cbm.settings = s.cbm.settings ∧ (takeReading s).cbm.standby = s.cbm.standby ∧ (takeReading s).cbm.slotBusy =
    s.cbm.slotBusy := by
  refine ⟨?_, ?_, ?_, ?_, ?_, ?_, ?_, ?_, ?_, ?_, ?_, ?_, ?_, ?_, ?_, ?_⟩ <;> (unfold takeReading; (repeat' first | split | dsimp only) <;> simp)

@[simp] theorem startReadingTimer_frame (s : State) :
    (startReadingTimer s).pending = s.pending ∧ (startReadingTimer s).env = s.env ∧ (startReadingTimer s).mem =
    s.mem ∧ (startReadingTimer s).mp = s.mp ∧ (startReadingTimer s).cbm = s.cbm ∧ (startReadingTimer s).lu = s.lu ∧
    (startReadingTimer s).su = s.su ∧ (startReadingTimer s).ks = s.ks ∧ (startReadingTimer s).ps = s.ps ∧
    (startReadingTimer s).sp = s.sp ∧ (startReadingTimer s).hm = s.hm ∧ (startReadingTimer s).pd = s.pd := by
  refine ⟨?_, ?_, ?_, ?_, ?_, ?_, ?_, ?_, ?_, ?_, ?_, ?_⟩ <;> (unfold startReadingTimer; (repeat' first | split | dsimp only) <;> simp)

@[simp] theorem stopReadingTimer_frame (s : State) :
    (stopReadingTimer s).pending = s.pending ∧ (stopReadingTimer s).env = s.env ∧ (stopReadingTimer s).mem = s.mem ∧
    (stopReadingTimer s).mp = s.mp ∧ (stopReadingTimer s).cbm = s.cbm ∧ (stopReadingTimer s).lu = s.lu ∧
    (stopReadingTimer s).su = s.su ∧ (stopReadingTimer s).ks = s.ks ∧ (stopReadingTimer s).ps = s.ps ∧
    (stopReadingTimer s).sp = s.sp ∧ (stopReadingTimer s).hm = s.hm ∧ (stopReadingTimer s).pd = s.pd := by
  refine ⟨?_, ?_, ?_, ?_, ?_, ?_, ?_, ?_, ?_, ?_, ?_, ?_⟩ <;> (unfold stopReadingTimer; (repeat' first | split | dsimp only) <;> simp)

@[simp] theorem coolAll_frame (s : State) :
    (coolAll s).pending = s.pending ∧ (coolAll s).env = s.env ∧ (coolAll s).mem = s.mem ∧ (coolAll s).mp = s.mp ∧
    (coolAll s).cbm = s.cbm ∧ (coolAll s).lu = s.lu ∧ (coolAll s).su = s.su ∧ (coolAll s).ks = s.ks ∧ (coolAll s).ps
    = s.ps ∧ (coolAll s).sp = s.sp ∧ (coolAll s).sm = s.sm ∧ (coolAll s).pd = s.pd := by
  refine ⟨?_, ?_, ?_, ?_, ?_, ?_, ?_, ?_, ?_, ?_, ?_, ?_⟩ <;> (unfold coolAll; (repeat' first | split | dsimp only) <;> simp)

@[simp] theorem strobesOff_frame (s : State) :
    (strobesOff s).pending = s.pending ∧ (strobesOff s).env = s.env ∧ (strobesOff s).mem = s.mem ∧ (strobesOff s).mp
    = s.mp ∧ (strobesOff s).cbm = s.cbm ∧ (strobesOff s).lu = s.lu ∧ (strobesOff s).su = s.su ∧ (strobesOff s).ks =
    s.ks ∧ (strobesOff s).ps = s.ps ∧ (strobesOff s).hm = s.hm ∧ (strobesOff s).sm = s.sm ∧ (strobesOff s).pd = s.pd := by
  refine ⟨?_, ?_, ?_, ?_, ?_, ?_, ?_, ?_, ?_, ?_, ?_, ?_⟩ <;> (unfold strobesOff; (repeat' first | split | dsimp only) <;> simp)

@[simp] theorem discardPlan_frame (s : State) :
    (discardPlan s).pending = s.pending ∧ (discardPlan s).env = s.env ∧ (discardPlan s).mem = s.mem ∧ (discardPlan
    s).mp = s.mp ∧ (discardPlan s).cbm = s.cbm ∧ (discardPlan s).lu = s.lu ∧ (discardPlan s).su = s.su ∧
    (discardPlan s).ks = s.ks ∧ (discardPlan s).ps = s.ps ∧ (discardPlan s).hm = s.hm ∧ (discardPlan s).sm = s.sm ∧
    (discardPlan s).pd = s.pd := by
  refine ⟨?_, ?_, ?_, ?_, ?_, ?_, ?_, ?_, ?_, ?_, ?_, ?_⟩ <;> (unfold discardPlan; (repeat' first | split | dsimp only) <;> simp)

end Sys2Proof.Machine
end

