-- ==== Sys2Proof/Laws/FramesLine.lean ====
section
/-! SUPPORT. Frames: for each operation of the stream unit and the line unit, the parts of the state it leaves as they were. -/

set_option linter.unusedTactic false
set_option linter.unreachableTactic false
set_option linter.unnecessarySeqFocus false

namespace Sys2Proof.Machine

open Sys2Proof

@[simp] theorem tryDeposit_frame (s : State) :
    (tryDeposit s).pending = s.pending ∧ (tryDeposit s).env = s.env ∧ (tryDeposit s).mem = s.mem ∧ (tryDeposit s).mp
    = s.mp ∧ (tryDeposit s).cbm = s.cbm ∧ (tryDeposit s).lu = s.lu ∧ (tryDeposit s).ks = s.ks ∧ (tryDeposit s).ps =
    s.ps ∧ (tryDeposit s).sp = s.sp ∧ (tryDeposit s).hm = s.hm ∧ (tryDeposit s).sm = s.sm ∧ (tryDeposit s).pd = s.pd := by
  refine ⟨?_, ?_, ?_, ?_, ?_, ?_, ?_, ?_, ?_, ?_, ?_, ?_⟩ <;> (unfold tryDeposit; (repeat' first | split | dsimp only) <;> simp)

@[simp] theorem countLost_frame (s : State) :
    (countLost s).pending = s.pending ∧ (countLost s).env = s.env ∧ (countLost s).mem = s.mem ∧ (countLost s).mp =
    s.mp ∧ (countLost s).lu = s.lu ∧ (countLost s).ks = s.ks ∧ (countLost s).ps = s.ps ∧ (countLost s).sp = s.sp ∧
    (countLost s).hm = s.hm ∧ (countLost s).sm = s.sm ∧ (countLost s).pd = s.pd ∧ (countLost s).cbm.geometry =
    s.cbm.geometry ∧ (countLost s).cbm.settings = s.cbm.settings ∧ (countLost s).cbm.standby = s.cbm.standby ∧
    (countLost s).cbm.slotBusy = s.cbm.slotBusy := by
  refine ⟨?_, ?_, ?_, ?_, ?_, ?_, ?_, ?_, ?_, ?_, ?_, ?_, ?_, ?_, ?_⟩ <;> (unfold countLost; (repeat' first | split | dsimp only) <;> simp)

@[simp] theorem placeLost_frame (s : State) :
    (placeLost s).pending = s.pending ∧ (placeLost s).env = s.env ∧ (placeLost s).mem = s.mem ∧ (placeLost s).mp =
    s.mp ∧ (placeLost s).cbm = s.cbm ∧ (placeLost s).lu = s.lu ∧ (placeLost s).ks = s.ks ∧ (placeLost s).ps = s.ps ∧
    (placeLost s).sp = s.sp ∧ (placeLost s).hm = s.hm ∧ (placeLost s).sm = s.sm ∧ (placeLost s).pd = s.pd := by
  refine ⟨?_, ?_, ?_, ?_, ?_, ?_, ?_, ?_, ?_, ?_, ?_, ?_⟩ <;> (unfold placeLost; (repeat' first | split | dsimp only) <;> simp)

@[simp] theorem arrive_frame (e : Entry) (s : State) :
    (arrive e s).pending = s.pending ∧ (arrive e s).env = s.env ∧ (arrive e s).mem = s.mem ∧ (arrive e s).mp = s.mp
    ∧ (arrive e s).lu = s.lu ∧ (arrive e s).ks = s.ks ∧ (arrive e s).ps = s.ps ∧ (arrive e s).sp = s.sp ∧ (arrive e
    s).hm = s.hm ∧ (arrive e s).sm = s.sm ∧ (arrive e s).pd = s.pd ∧ (arrive e s).cbm.geometry = s.cbm.geometry ∧
    (arrive e s).cbm.settings = s.cbm.settings ∧ (arrive e s).cbm.standby = s.cbm.standby ∧ (arrive e
    s).cbm.slotBusy = s.cbm.slotBusy := by
  refine ⟨?_, ?_, ?_, ?_, ?_, ?_, ?_, ?_, ?_, ?_, ?_, ?_, ?_, ?_, ?_⟩ <;> (unfold arrive; (repeat' first | split | dsimp only) <;> simp)

@[simp] theorem arriveLost_frame (s : State) :
    (arriveLost s).pending = s.pending ∧ (arriveLost s).env = s.env ∧ (arriveLost s).mem = s.mem ∧ (arriveLost s).mp
    = s.mp ∧ (arriveLost s).lu = s.lu ∧ (arriveLost s).ks = s.ks ∧ (arriveLost s).ps = s.ps ∧ (arriveLost s).sp =
    s.sp ∧ (arriveLost s).hm = s.hm ∧ (arriveLost s).sm = s.sm ∧ (arriveLost s).pd = s.pd ∧ (arriveLost
    s).cbm.geometry = s.cbm.geometry ∧ (arriveLost s).cbm.settings = s.cbm.settings ∧ (arriveLost s).cbm.standby =
    s.cbm.standby ∧ (arriveLost s).cbm.slotBusy = s.cbm.slotBusy := by
  refine ⟨?_, ?_, ?_, ?_, ?_, ?_, ?_, ?_, ?_, ?_, ?_, ?_, ?_, ?_, ?_⟩ <;> (unfold arriveLost; (repeat' first | split | dsimp only) <;> simp)

@[simp] theorem startCharacter_frame (c : Byte) (s : State) :
    (startCharacter c s).pending = s.pending ∧ (startCharacter c s).env = s.env ∧ (startCharacter c s).mem = s.mem ∧
    (startCharacter c s).mp = s.mp ∧ (startCharacter c s).cbm = s.cbm ∧ (startCharacter c s).su = s.su ∧
    (startCharacter c s).ks = s.ks ∧ (startCharacter c s).ps = s.ps ∧ (startCharacter c s).sp = s.sp ∧
    (startCharacter c s).hm = s.hm ∧ (startCharacter c s).sm = s.sm ∧ (startCharacter c s).pd = s.pd := by
  refine ⟨?_, ?_, ?_, ?_, ?_, ?_, ?_, ?_, ?_, ?_, ?_, ?_⟩ <;> (unfold startCharacter; (repeat' first | split | dsimp only) <;> simp)

@[simp] theorem takeFlow_frame (s : State) :
    (takeFlow s).pending = s.pending ∧ (takeFlow s).env = s.env ∧ (takeFlow s).mem = s.mem ∧ (takeFlow s).mp = s.mp
    ∧ (takeFlow s).cbm = s.cbm ∧ (takeFlow s).ks = s.ks ∧ (takeFlow s).ps = s.ps ∧ (takeFlow s).sp = s.sp ∧
    (takeFlow s).hm = s.hm ∧ (takeFlow s).sm = s.sm ∧ (takeFlow s).pd = s.pd := by
  refine ⟨?_, ?_, ?_, ?_, ?_, ?_, ?_, ?_, ?_, ?_, ?_⟩ <;> (unfold takeFlow; (repeat' first | split | dsimp only) <;> simp)

@[simp] theorem takeKeyChar_frame (c : Byte) (rest : List Byte) (s : State) :
    (takeKeyChar c rest s).pending = s.pending ∧ (takeKeyChar c rest s).env = s.env ∧ (takeKeyChar c rest s).mem =
    s.mem ∧ (takeKeyChar c rest s).mp = s.mp ∧ (takeKeyChar c rest s).ks = s.ks ∧ (takeKeyChar c rest s).ps = s.ps ∧
    (takeKeyChar c rest s).sp = s.sp ∧ (takeKeyChar c rest s).hm = s.hm ∧ (takeKeyChar c rest s).sm = s.sm ∧
    (takeKeyChar c rest s).pd = s.pd ∧ (takeKeyChar c rest s).cbm.geometry = s.cbm.geometry ∧ (takeKeyChar c rest
    s).cbm.settings = s.cbm.settings ∧ (takeKeyChar c rest s).cbm.standby = s.cbm.standby ∧ (takeKeyChar c rest
    s).cbm.slotBusy = s.cbm.slotBusy := by
  refine ⟨?_, ?_, ?_, ?_, ?_, ?_, ?_, ?_, ?_, ?_, ?_, ?_, ?_, ?_⟩ <;> (unfold takeKeyChar; (repeat' first | split | dsimp only) <;> simp)

@[simp] theorem chooseSource_frame (s : State) :
    (chooseSource s).pending = s.pending ∧ (chooseSource s).env = s.env ∧ (chooseSource s).mem = s.mem ∧
    (chooseSource s).mp = s.mp ∧ (chooseSource s).ks = s.ks ∧ (chooseSource s).ps = s.ps ∧ (chooseSource s).sp =
    s.sp ∧ (chooseSource s).hm = s.hm ∧ (chooseSource s).sm = s.sm ∧ (chooseSource s).pd = s.pd ∧ (chooseSource
    s).cbm.geometry = s.cbm.geometry ∧ (chooseSource s).cbm.settings = s.cbm.settings ∧ (chooseSource s).cbm.standby
    = s.cbm.standby ∧ (chooseSource s).cbm.slotBusy = s.cbm.slotBusy := by
  refine ⟨?_, ?_, ?_, ?_, ?_, ?_, ?_, ?_, ?_, ?_, ?_, ?_, ?_, ?_⟩ <;> (unfold chooseSource; (repeat' first | split | dsimp only) <;> simp)

@[simp] theorem boundary_frame (s : State) :
    (boundary s).pending = s.pending ∧ (boundary s).env = s.env ∧ (boundary s).mem = s.mem ∧ (boundary s).mp = s.mp
    ∧ (boundary s).ks = s.ks ∧ (boundary s).ps = s.ps ∧ (boundary s).sp = s.sp ∧ (boundary s).hm = s.hm ∧ (boundary
    s).sm = s.sm ∧ (boundary s).pd = s.pd ∧ (boundary s).cbm.geometry = s.cbm.geometry ∧ (boundary s).cbm.settings =
    s.cbm.settings ∧ (boundary s).cbm.standby = s.cbm.standby ∧ (boundary s).cbm.slotBusy = s.cbm.slotBusy := by
  refine ⟨?_, ?_, ?_, ?_, ?_, ?_, ?_, ?_, ?_, ?_, ?_, ?_, ?_, ?_⟩ <;> (unfold boundary; (repeat' first | split | dsimp only) <;> simp)

@[simp] theorem evaluateFlow_frame (s : State) :
    (evaluateFlow s).pending = s.pending ∧ (evaluateFlow s).env = s.env ∧ (evaluateFlow s).mem = s.mem ∧
    (evaluateFlow s).mp = s.mp ∧ (evaluateFlow s).ks = s.ks ∧ (evaluateFlow s).ps = s.ps ∧ (evaluateFlow s).sp =
    s.sp ∧ (evaluateFlow s).hm = s.hm ∧ (evaluateFlow s).sm = s.sm ∧ (evaluateFlow s).pd = s.pd ∧ (evaluateFlow
    s).cbm.geometry = s.cbm.geometry ∧ (evaluateFlow s).cbm.settings = s.cbm.settings ∧ (evaluateFlow s).cbm.standby
    = s.cbm.standby ∧ (evaluateFlow s).cbm.slotBusy = s.cbm.slotBusy := by
  refine ⟨?_, ?_, ?_, ?_, ?_, ?_, ?_, ?_, ?_, ?_, ?_, ?_, ?_, ?_⟩ <;> (unfold evaluateFlow; (repeat' first | split | dsimp only) <;> simp)

@[simp] theorem landRxProd_frame (s : State) :
    (landRxProd s).pending = s.pending ∧ (landRxProd s).env = s.env ∧ (landRxProd s).mp = s.mp ∧ (landRxProd s).ks =
    s.ks ∧ (landRxProd s).ps = s.ps ∧ (landRxProd s).sp = s.sp ∧ (landRxProd s).hm = s.hm ∧ (landRxProd s).sm = s.sm
    ∧ (landRxProd s).pd = s.pd ∧ (landRxProd s).cbm.geometry = s.cbm.geometry ∧ (landRxProd s).cbm.settings =
    s.cbm.settings ∧ (landRxProd s).cbm.standby = s.cbm.standby ∧ (landRxProd s).cbm.slotBusy = s.cbm.slotBusy := by
  refine ⟨?_, ?_, ?_, ?_, ?_, ?_, ?_, ?_, ?_, ?_, ?_, ?_, ?_⟩ <;> (unfold landRxProd; (repeat' first | split | dsimp only) <;> simp)

@[simp] theorem grantSu_frame (s : State) :
    (grantSu s).pending = s.pending ∧ (grantSu s).env = s.env ∧ (grantSu s).mp = s.mp ∧ (grantSu s).ks = s.ks ∧
    (grantSu s).ps = s.ps ∧ (grantSu s).sp = s.sp ∧ (grantSu s).hm = s.hm ∧ (grantSu s).sm = s.sm ∧ (grantSu s).pd =
    s.pd ∧ (grantSu s).cbm.geometry = s.cbm.geometry ∧ (grantSu s).cbm.settings = s.cbm.settings ∧ (grantSu
    s).cbm.standby = s.cbm.standby ∧ (grantSu s).cbm.slotBusy = s.cbm.slotBusy := by
  refine ⟨?_, ?_, ?_, ?_, ?_, ?_, ?_, ?_, ?_, ?_, ?_, ?_, ?_⟩ <;> (unfold grantSu; (repeat' first | split | dsimp only) <;> simp)

@[simp] theorem actOnRxCons_frame (s : State) :
    (actOnRxCons s).pending = s.pending ∧ (actOnRxCons s).env = s.env ∧ (actOnRxCons s).mem = s.mem ∧ (actOnRxCons
    s).mp = s.mp ∧ (actOnRxCons s).ks = s.ks ∧ (actOnRxCons s).ps = s.ps ∧ (actOnRxCons s).sp = s.sp ∧ (actOnRxCons
    s).hm = s.hm ∧ (actOnRxCons s).sm = s.sm ∧ (actOnRxCons s).pd = s.pd ∧ (actOnRxCons s).cbm.geometry =
    s.cbm.geometry ∧ (actOnRxCons s).cbm.settings = s.cbm.settings ∧ (actOnRxCons s).cbm.standby = s.cbm.standby ∧
    (actOnRxCons s).cbm.slotBusy = s.cbm.slotBusy := by
  refine ⟨?_, ?_, ?_, ?_, ?_, ?_, ?_, ?_, ?_, ?_, ?_, ?_, ?_, ?_⟩ <;> (unfold actOnRxCons; (repeat' first | split | dsimp only) <;> simp)

@[simp] theorem grantLu_frame (s : State) :
    (grantLu s).pending = s.pending ∧ (grantLu s).env = s.env ∧ (grantLu s).mp = s.mp ∧ (grantLu s).ks = s.ks ∧
    (grantLu s).ps = s.ps ∧ (grantLu s).sp = s.sp ∧ (grantLu s).hm = s.hm ∧ (grantLu s).sm = s.sm ∧ (grantLu s).pd =
    s.pd ∧ (grantLu s).cbm.geometry = s.cbm.geometry ∧ (grantLu s).cbm.settings = s.cbm.settings ∧ (grantLu
    s).cbm.standby = s.cbm.standby ∧ (grantLu s).cbm.slotBusy = s.cbm.slotBusy := by
  refine ⟨?_, ?_, ?_, ?_, ?_, ?_, ?_, ?_, ?_, ?_, ?_, ?_, ?_⟩ <;> (unfold grantLu; (repeat' first | split | dsimp only) <;> simp)

@[simp] theorem evaluateQuiet_frame (s : State) :
    (evaluateQuiet s).pending = s.pending ∧ (evaluateQuiet s).env = s.env ∧ (evaluateQuiet s).mem = s.mem ∧
    (evaluateQuiet s).mp = s.mp ∧ (evaluateQuiet s).su = s.su ∧ (evaluateQuiet s).ks = s.ks ∧ (evaluateQuiet s).ps =
    s.ps ∧ (evaluateQuiet s).sp = s.sp ∧ (evaluateQuiet s).hm = s.hm ∧ (evaluateQuiet s).sm = s.sm ∧ (evaluateQuiet
    s).pd = s.pd ∧ (evaluateQuiet s).cbm.geometry = s.cbm.geometry ∧ (evaluateQuiet s).cbm.settings = s.cbm.settings
    ∧ (evaluateQuiet s).cbm.standby = s.cbm.standby ∧ (evaluateQuiet s).cbm.slotBusy = s.cbm.slotBusy := by
  refine ⟨?_, ?_, ?_, ?_, ?_, ?_, ?_, ?_, ?_, ?_, ?_, ?_, ?_, ?_, ?_⟩ <;> (unfold evaluateQuiet; (repeat' first | split | dsimp only) <;> simp)

@[simp] theorem updateQs_frame (m : Nat) (s : State) :
    (updateQs m s).pending = s.pending ∧ (updateQs m s).env = s.env ∧ (updateQs m s).mem = s.mem ∧ (updateQs m s).mp
    = s.mp ∧ (updateQs m s).su = s.su ∧ (updateQs m s).ks = s.ks ∧ (updateQs m s).ps = s.ps ∧ (updateQs m s).sp =
    s.sp ∧ (updateQs m s).hm = s.hm ∧ (updateQs m s).sm = s.sm ∧ (updateQs m s).pd = s.pd ∧ (updateQs m
    s).cbm.geometry = s.cbm.geometry ∧ (updateQs m s).cbm.settings = s.cbm.settings ∧ (updateQs m s).cbm.standby =
    s.cbm.standby ∧ (updateQs m s).cbm.slotBusy = s.cbm.slotBusy := by
  refine ⟨?_, ?_, ?_, ?_, ?_, ?_, ?_, ?_, ?_, ?_, ?_, ?_, ?_, ?_, ?_⟩ <;> (unfold updateQs; (repeat' first | split | dsimp only) <;> simp)

@[simp] theorem enterOff_frame (s : State) :
    (enterOff s).pending = s.pending ∧ (enterOff s).env = s.env ∧ (enterOff s).mem = s.mem ∧ (enterOff s).mp = s.mp
    ∧ (enterOff s).cbm = s.cbm ∧ (enterOff s).ks = s.ks ∧ (enterOff s).ps = s.ps ∧ (enterOff s).sp = s.sp ∧
    (enterOff s).hm = s.hm ∧ (enterOff s).sm = s.sm ∧ (enterOff s).pd = s.pd := by
  refine ⟨?_, ?_, ?_, ?_, ?_, ?_, ?_, ?_, ?_, ?_, ?_⟩ <;> (unfold enterOff; (repeat' first | split | dsimp only) <;> simp)

@[simp] theorem enterFade_frame (s : State) :
    (enterFade s).pending = s.pending ∧ (enterFade s).env = s.env ∧ (enterFade s).mem = s.mem ∧ (enterFade s).mp =
    s.mp ∧ (enterFade s).ks = s.ks ∧ (enterFade s).ps = s.ps ∧ (enterFade s).sp = s.sp ∧ (enterFade s).hm = s.hm ∧
    (enterFade s).sm = s.sm ∧ (enterFade s).pd = s.pd ∧ (enterFade s).cbm.geometry = s.cbm.geometry ∧ (enterFade
    s).cbm.settings = s.cbm.settings ∧ (enterFade s).cbm.standby = s.cbm.standby ∧ (enterFade s).cbm.slotBusy =
    s.cbm.slotBusy := by
  refine ⟨?_, ?_, ?_, ?_, ?_, ?_, ?_, ?_, ?_, ?_, ?_, ?_, ?_, ?_⟩ <;> (unfold enterFade; (repeat' first | split | dsimp only) <;> simp)

@[simp] theorem onlineBoundary_frame (s : State) :
    (onlineBoundary s).pending = s.pending ∧ (onlineBoundary s).mem = s.mem ∧ (onlineBoundary s).mp = s.mp ∧
    (onlineBoundary s).ks = s.ks ∧ (onlineBoundary s).ps = s.ps ∧ (onlineBoundary s).sp = s.sp ∧ (onlineBoundary
    s).hm = s.hm ∧ (onlineBoundary s).sm = s.sm ∧ (onlineBoundary s).pd = s.pd ∧ (onlineBoundary s).env.now =
    s.env.now ∧ (onlineBoundary s).env.tonePhase = s.env.tonePhase ∧ (onlineBoundary s).cbm.geometry =
    s.cbm.geometry ∧ (onlineBoundary s).cbm.settings = s.cbm.settings ∧ (onlineBoundary s).cbm.standby =
    s.cbm.standby ∧ (onlineBoundary s).cbm.slotBusy = s.cbm.slotBusy := by
  refine ⟨?_, ?_, ?_, ?_, ?_, ?_, ?_, ?_, ?_, ?_, ?_, ?_, ?_, ?_, ?_⟩ <;> (unfold onlineBoundary; (repeat' first | split | dsimp only) <;> simp)

@[simp] theorem enterOnline_frame (s : State) :
    (enterOnline s).pending = s.pending ∧ (enterOnline s).mem = s.mem ∧ (enterOnline s).mp = s.mp ∧ (enterOnline
    s).ks = s.ks ∧ (enterOnline s).ps = s.ps ∧ (enterOnline s).sp = s.sp ∧ (enterOnline s).hm = s.hm ∧ (enterOnline
    s).sm = s.sm ∧ (enterOnline s).pd = s.pd ∧ (enterOnline s).env.now = s.env.now ∧ (enterOnline s).env.tonePhase =
    s.env.tonePhase ∧ (enterOnline s).cbm.geometry = s.cbm.geometry ∧ (enterOnline s).cbm.settings = s.cbm.settings
    ∧ (enterOnline s).cbm.standby = s.cbm.standby ∧ (enterOnline s).cbm.slotBusy = s.cbm.slotBusy := by
  refine ⟨?_, ?_, ?_, ?_, ?_, ?_, ?_, ?_, ?_, ?_, ?_, ?_, ?_, ?_, ?_⟩ <;> (unfold enterOnline; (repeat' first | split | dsimp only) <;> simp)

@[simp] theorem carrierUp_frame (s : State) :
    (carrierUp s).pending = s.pending ∧ (carrierUp s).env = s.env ∧ (carrierUp s).mem = s.mem ∧ (carrierUp s).mp =
    s.mp ∧ (carrierUp s).cbm = s.cbm ∧ (carrierUp s).su = s.su ∧ (carrierUp s).ks = s.ks ∧ (carrierUp s).ps = s.ps ∧
    (carrierUp s).sp = s.sp ∧ (carrierUp s).hm = s.hm ∧ (carrierUp s).sm = s.sm ∧ (carrierUp s).pd = s.pd := by
  refine ⟨?_, ?_, ?_, ?_, ?_, ?_, ?_, ?_, ?_, ?_, ?_, ?_⟩ <;> (unfold carrierUp; (repeat' first | split | dsimp only) <;> simp)

@[simp] theorem carrierLost_frame (s : State) :
    (carrierLost s).pending = s.pending ∧ (carrierLost s).env = s.env ∧ (carrierLost s).mem = s.mem ∧ (carrierLost
    s).mp = s.mp ∧ (carrierLost s).ks = s.ks ∧ (carrierLost s).ps = s.ps ∧ (carrierLost s).sp = s.sp ∧ (carrierLost
    s).hm = s.hm ∧ (carrierLost s).sm = s.sm ∧ (carrierLost s).pd = s.pd ∧ (carrierLost s).cbm.geometry =
    s.cbm.geometry ∧ (carrierLost s).cbm.settings = s.cbm.settings ∧ (carrierLost s).cbm.standby = s.cbm.standby ∧
    (carrierLost s).cbm.slotBusy = s.cbm.slotBusy := by
  refine ⟨?_, ?_, ?_, ?_, ?_, ?_, ?_, ?_, ?_, ?_, ?_, ?_, ?_, ?_⟩ <;> (unfold carrierLost; (repeat' first | split | dsimp only) <;> simp)

@[simp] theorem consumeXoff_frame (s : State) :
    (consumeXoff s).pending = s.pending ∧ (consumeXoff s).env = s.env ∧ (consumeXoff s).mem = s.mem ∧ (consumeXoff
    s).mp = s.mp ∧ (consumeXoff s).cbm = s.cbm ∧ (consumeXoff s).su = s.su ∧ (consumeXoff s).ks = s.ks ∧
    (consumeXoff s).ps = s.ps ∧ (consumeXoff s).sp = s.sp ∧ (consumeXoff s).hm = s.hm ∧ (consumeXoff s).sm = s.sm ∧
    (consumeXoff s).pd = s.pd := by
  refine ⟨?_, ?_, ?_, ?_, ?_, ?_, ?_, ?_, ?_, ?_, ?_, ?_⟩ <;> (unfold consumeXoff; (repeat' first | split | dsimp only) <;> simp)

@[simp] theorem consumeXon_frame (s : State) :
    (consumeXon s).pending = s.pending ∧ (consumeXon s).env = s.env ∧ (consumeXon s).mem = s.mem ∧ (consumeXon s).mp
    = s.mp ∧ (consumeXon s).ks = s.ks ∧ (consumeXon s).ps = s.ps ∧ (consumeXon s).sp = s.sp ∧ (consumeXon s).hm =
    s.hm ∧ (consumeXon s).sm = s.sm ∧ (consumeXon s).pd = s.pd ∧ (consumeXon s).cbm.geometry = s.cbm.geometry ∧
    (consumeXon s).cbm.settings = s.cbm.settings ∧ (consumeXon s).cbm.standby = s.cbm.standby ∧ (consumeXon
    s).cbm.slotBusy = s.cbm.slotBusy := by
  refine ⟨?_, ?_, ?_, ?_, ?_, ?_, ?_, ?_, ?_, ?_, ?_, ?_, ?_, ?_⟩ <;> (unfold consumeXon; (repeat' first | split | dsimp only) <;> simp)

@[simp] theorem deliverFrame_frame (c : Byte) (parity framing weak : Bool) (s : State) :
    (deliverFrame c parity framing weak s).pending = s.pending ∧ (deliverFrame c parity framing weak s).env = s.env
    ∧ (deliverFrame c parity framing weak s).mem = s.mem ∧ (deliverFrame c parity framing weak s).mp = s.mp ∧
    (deliverFrame c parity framing weak s).ks = s.ks ∧ (deliverFrame c parity framing weak s).ps = s.ps ∧
    (deliverFrame c parity framing weak s).sp = s.sp ∧ (deliverFrame c parity framing weak s).hm = s.hm ∧
    (deliverFrame c parity framing weak s).sm = s.sm ∧ (deliverFrame c parity framing weak s).pd = s.pd ∧
    (deliverFrame c parity framing weak s).cbm.geometry = s.cbm.geometry ∧ (deliverFrame c parity framing weak
    s).cbm.settings = s.cbm.settings ∧ (deliverFrame c parity framing weak s).cbm.standby = s.cbm.standby ∧
    (deliverFrame c parity framing weak s).cbm.slotBusy = s.cbm.slotBusy := by
  refine ⟨?_, ?_, ?_, ?_, ?_, ?_, ?_, ?_, ?_, ?_, ?_, ?_, ?_, ?_⟩ <;> (unfold deliverFrame; (repeat' first | split | dsimp only) <;> simp)

@[simp] theorem completeFrame_frame (r : FrameRecord) (s : State) :
    (completeFrame r s).pending = s.pending ∧ (completeFrame r s).env = s.env ∧ (completeFrame r s).mem = s.mem ∧
    (completeFrame r s).mp = s.mp ∧ (completeFrame r s).ks = s.ks ∧ (completeFrame r s).ps = s.ps ∧ (completeFrame r
    s).sp = s.sp ∧ (completeFrame r s).hm = s.hm ∧ (completeFrame r s).sm = s.sm ∧ (completeFrame r s).pd = s.pd ∧
    (completeFrame r s).cbm.geometry = s.cbm.geometry ∧ (completeFrame r s).cbm.settings = s.cbm.settings ∧
    (completeFrame r s).cbm.standby = s.cbm.standby ∧ (completeFrame r s).cbm.slotBusy = s.cbm.slotBusy := by
  refine ⟨?_, ?_, ?_, ?_, ?_, ?_, ?_, ?_, ?_, ?_, ?_, ?_, ?_, ?_⟩ <;> (unfold completeFrame; (repeat' first | split | dsimp only) <;> simp)

@[simp] theorem idleMarkBit_frame (margin : Nat) (s : State) :
    (idleMarkBit margin s).pending = s.pending ∧ (idleMarkBit margin s).env = s.env ∧ (idleMarkBit margin s).mem =
    s.mem ∧ (idleMarkBit margin s).mp = s.mp ∧ (idleMarkBit margin s).su = s.su ∧ (idleMarkBit margin s).ks = s.ks ∧
    (idleMarkBit margin s).ps = s.ps ∧ (idleMarkBit margin s).sp = s.sp ∧ (idleMarkBit margin s).hm = s.hm ∧
    (idleMarkBit margin s).sm = s.sm ∧ (idleMarkBit margin s).pd = s.pd ∧ (idleMarkBit margin s).cbm.geometry =
    s.cbm.geometry ∧ (idleMarkBit margin s).cbm.settings = s.cbm.settings ∧ (idleMarkBit margin s).cbm.standby =
    s.cbm.standby ∧ (idleMarkBit margin s).cbm.slotBusy = s.cbm.slotBusy := by
  refine ⟨?_, ?_, ?_, ?_, ?_, ?_, ?_, ?_, ?_, ?_, ?_, ?_, ?_, ?_, ?_⟩ <;> (unfold idleMarkBit; (repeat' first | split | dsimp only) <;> simp)

@[simp] theorem idleSpaceBit_frame (s : State) :
    (idleSpaceBit s).pending = s.pending ∧ (idleSpaceBit s).env = s.env ∧ (idleSpaceBit s).mem = s.mem ∧
    (idleSpaceBit s).mp = s.mp ∧ (idleSpaceBit s).cbm = s.cbm ∧ (idleSpaceBit s).su = s.su ∧ (idleSpaceBit s).ks =
    s.ks ∧ (idleSpaceBit s).ps = s.ps ∧ (idleSpaceBit s).sp = s.sp ∧ (idleSpaceBit s).hm = s.hm ∧ (idleSpaceBit
    s).sm = s.sm ∧ (idleSpaceBit s).pd = s.pd := by
  refine ⟨?_, ?_, ?_, ?_, ?_, ?_, ?_, ?_, ?_, ?_, ?_, ?_⟩ <;> (unfold idleSpaceBit; (repeat' first | split | dsimp only) <;> simp)

@[simp] theorem huntBit_frame (d : Decision) (margin : Nat) (s : State) :
    (huntBit d margin s).pending = s.pending ∧ (huntBit d margin s).env = s.env ∧ (huntBit d margin s).mem = s.mem ∧
    (huntBit d margin s).mp = s.mp ∧ (huntBit d margin s).su = s.su ∧ (huntBit d margin s).ks = s.ks ∧ (huntBit d
    margin s).ps = s.ps ∧ (huntBit d margin s).sp = s.sp ∧ (huntBit d margin s).hm = s.hm ∧ (huntBit d margin s).sm
    = s.sm ∧ (huntBit d margin s).pd = s.pd ∧ (huntBit d margin s).cbm.geometry = s.cbm.geometry ∧ (huntBit d margin
    s).cbm.settings = s.cbm.settings ∧ (huntBit d margin s).cbm.standby = s.cbm.standby ∧ (huntBit d margin
    s).cbm.slotBusy = s.cbm.slotBusy := by
  refine ⟨?_, ?_, ?_, ?_, ?_, ?_, ?_, ?_, ?_, ?_, ?_, ?_, ?_, ?_, ?_⟩ <;> (unfold huntBit; (repeat' first | split | dsimp only) <;> simp)

@[simp] theorem verifyBit_frame (d : Decision) (margin : Nat) (s : State) :
    (verifyBit d margin s).pending = s.pending ∧ (verifyBit d margin s).env = s.env ∧ (verifyBit d margin s).mem =
    s.mem ∧ (verifyBit d margin s).mp = s.mp ∧ (verifyBit d margin s).su = s.su ∧ (verifyBit d margin s).ks = s.ks ∧
    (verifyBit d margin s).ps = s.ps ∧ (verifyBit d margin s).sp = s.sp ∧ (verifyBit d margin s).hm = s.hm ∧
    (verifyBit d margin s).sm = s.sm ∧ (verifyBit d margin s).pd = s.pd ∧ (verifyBit d margin s).cbm.geometry =
    s.cbm.geometry ∧ (verifyBit d margin s).cbm.settings = s.cbm.settings ∧ (verifyBit d margin s).cbm.standby =
    s.cbm.standby ∧ (verifyBit d margin s).cbm.slotBusy = s.cbm.slotBusy := by
  refine ⟨?_, ?_, ?_, ?_, ?_, ?_, ?_, ?_, ?_, ?_, ?_, ?_, ?_, ?_, ?_⟩ <;> (unfold verifyBit; (repeat' first | split | dsimp only) <;> simp)

@[simp] theorem frameBit_frame (r : FrameRecord) (d : Decision) (margin : Nat) (s : State) :
    (frameBit r d margin s).pending = s.pending ∧ (frameBit r d margin s).env = s.env ∧ (frameBit r d margin s).mem
    = s.mem ∧ (frameBit r d margin s).mp = s.mp ∧ (frameBit r d margin s).ks = s.ks ∧ (frameBit r d margin s).ps =
    s.ps ∧ (frameBit r d margin s).sp = s.sp ∧ (frameBit r d margin s).hm = s.hm ∧ (frameBit r d margin s).sm = s.sm
    ∧ (frameBit r d margin s).pd = s.pd ∧ (frameBit r d margin s).cbm.geometry = s.cbm.geometry ∧ (frameBit r d
    margin s).cbm.settings = s.cbm.settings ∧ (frameBit r d margin s).cbm.standby = s.cbm.standby ∧ (frameBit r d
    margin s).cbm.slotBusy = s.cbm.slotBusy := by
  refine ⟨?_, ?_, ?_, ?_, ?_, ?_, ?_, ?_, ?_, ?_, ?_, ?_, ?_, ?_⟩ <;> (unfold frameBit; (repeat' first | split | dsimp only) <;> simp)

@[simp] theorem candidateBit_frame (c : Candidate) (d : Decision) (margin : Nat) (s : State) :
    (candidateBit c d margin s).pending = s.pending ∧ (candidateBit c d margin s).env = s.env ∧ (candidateBit c d
    margin s).mem = s.mem ∧ (candidateBit c d margin s).mp = s.mp ∧ (candidateBit c d margin s).ks = s.ks ∧
    (candidateBit c d margin s).ps = s.ps ∧ (candidateBit c d margin s).sp = s.sp ∧ (candidateBit c d margin s).hm =
    s.hm ∧ (candidateBit c d margin s).sm = s.sm ∧ (candidateBit c d margin s).pd = s.pd ∧ (candidateBit c d margin
    s).cbm.geometry = s.cbm.geometry ∧ (candidateBit c d margin s).cbm.settings = s.cbm.settings ∧ (candidateBit c d
    margin s).cbm.standby = s.cbm.standby ∧ (candidateBit c d margin s).cbm.slotBusy = s.cbm.slotBusy := by
  refine ⟨?_, ?_, ?_, ?_, ?_, ?_, ?_, ?_, ?_, ?_, ?_, ?_, ?_, ?_⟩ <;> (unfold candidateBit; (repeat' first | split | dsimp only) <;> simp)

@[simp] theorem breakBit_frame (d : Decision) (margin : Nat) (s : State) :
    (breakBit d margin s).pending = s.pending ∧ (breakBit d margin s).env = s.env ∧ (breakBit d margin s).mem =
    s.mem ∧ (breakBit d margin s).mp = s.mp ∧ (breakBit d margin s).su = s.su ∧ (breakBit d margin s).ks = s.ks ∧
    (breakBit d margin s).ps = s.ps ∧ (breakBit d margin s).sp = s.sp ∧ (breakBit d margin s).hm = s.hm ∧ (breakBit
    d margin s).sm = s.sm ∧ (breakBit d margin s).pd = s.pd ∧ (breakBit d margin s).cbm.geometry = s.cbm.geometry ∧
    (breakBit d margin s).cbm.settings = s.cbm.settings ∧ (breakBit d margin s).cbm.standby = s.cbm.standby ∧
    (breakBit d margin s).cbm.slotBusy = s.cbm.slotBusy := by
  refine ⟨?_, ?_, ?_, ?_, ?_, ?_, ?_, ?_, ?_, ?_, ?_, ?_, ?_, ?_, ?_⟩ <;> (unfold breakBit; (repeat' first | split | dsimp only) <;> simp)

@[simp] theorem receiverBit_frame (d : Decision) (margin : Nat) (s : State) :
    (receiverBit d margin s).pending = s.pending ∧ (receiverBit d margin s).env = s.env ∧ (receiverBit d margin
    s).mem = s.mem ∧ (receiverBit d margin s).mp = s.mp ∧ (receiverBit d margin s).ks = s.ks ∧ (receiverBit d margin
    s).ps = s.ps ∧ (receiverBit d margin s).sp = s.sp ∧ (receiverBit d margin s).hm = s.hm ∧ (receiverBit d margin
    s).sm = s.sm ∧ (receiverBit d margin s).pd = s.pd ∧ (receiverBit d margin s).cbm.geometry = s.cbm.geometry ∧
    (receiverBit d margin s).cbm.settings = s.cbm.settings ∧ (receiverBit d margin s).cbm.standby = s.cbm.standby ∧
    (receiverBit d margin s).cbm.slotBusy = s.cbm.slotBusy := by
  refine ⟨?_, ?_, ?_, ?_, ?_, ?_, ?_, ?_, ?_, ?_, ?_, ?_, ?_, ?_⟩ <;> (unfold receiverBit; (repeat' first | split | dsimp only) <;> simp)

@[simp] theorem integrationBit_frame (d : Decision) (margin : Nat) (s : State) :
    (integrationBit d margin s).pending = s.pending ∧ (integrationBit d margin s).mem = s.mem ∧ (integrationBit d
    margin s).mp = s.mp ∧ (integrationBit d margin s).ks = s.ks ∧ (integrationBit d margin s).ps = s.ps ∧
    (integrationBit d margin s).sp = s.sp ∧ (integrationBit d margin s).hm = s.hm ∧ (integrationBit d margin s).sm =
    s.sm ∧ (integrationBit d margin s).pd = s.pd ∧ (integrationBit d margin s).env.now = s.env.now ∧ (integrationBit
    d margin s).env.tonePhase = s.env.tonePhase ∧ (integrationBit d margin s).cbm.geometry = s.cbm.geometry ∧
    (integrationBit d margin s).cbm.settings = s.cbm.settings ∧ (integrationBit d margin s).cbm.standby =
    s.cbm.standby ∧ (integrationBit d margin s).cbm.slotBusy = s.cbm.slotBusy := by
  refine ⟨?_, ?_, ?_, ?_, ?_, ?_, ?_, ?_, ?_, ?_, ?_, ?_, ?_, ?_, ?_⟩ <;> (unfold integrationBit; (repeat' first | split | dsimp only) <;> simp)

@[simp] theorem bitDecided_frame (d : Decision) (margin : Nat) (s : State) :
    (bitDecided d margin s).pending = s.pending ∧ (bitDecided d margin s).mem = s.mem ∧ (bitDecided d margin s).mp =
    s.mp ∧ (bitDecided d margin s).ks = s.ks ∧ (bitDecided d margin s).ps = s.ps ∧ (bitDecided d margin s).sp = s.sp
    ∧ (bitDecided d margin s).hm = s.hm ∧ (bitDecided d margin s).sm = s.sm ∧ (bitDecided d margin s).pd = s.pd ∧
    (bitDecided d margin s).env.now = s.env.now ∧ (bitDecided d margin s).env.tonePhase = s.env.tonePhase ∧
    (bitDecided d margin s).cbm.geometry = s.cbm.geometry ∧ (bitDecided d margin s).cbm.settings = s.cbm.settings ∧
    (bitDecided d margin s).cbm.standby = s.cbm.standby ∧ (bitDecided d margin s).cbm.slotBusy = s.cbm.slotBusy := by
  refine ⟨?_, ?_, ?_, ?_, ?_, ?_, ?_, ?_, ?_, ?_, ?_, ?_, ?_, ?_, ?_⟩ <;> (unfold bitDecided; (repeat' first | split | dsimp only) <;> simp)

@[simp] theorem startEdgeSeen_frame (s : State) :
    (startEdgeSeen s).pending = s.pending ∧ (startEdgeSeen s).env = s.env ∧ (startEdgeSeen s).mem = s.mem ∧
    (startEdgeSeen s).mp = s.mp ∧ (startEdgeSeen s).cbm = s.cbm ∧ (startEdgeSeen s).su = s.su ∧ (startEdgeSeen s).ks
    = s.ks ∧ (startEdgeSeen s).ps = s.ps ∧ (startEdgeSeen s).sp = s.sp ∧ (startEdgeSeen s).hm = s.hm ∧
    (startEdgeSeen s).sm = s.sm ∧ (startEdgeSeen s).pd = s.pd := by
  refine ⟨?_, ?_, ?_, ?_, ?_, ?_, ?_, ?_, ?_, ?_, ?_, ?_⟩ <;> (unfold startEdgeSeen; (repeat' first | split | dsimp only) <;> simp)

@[simp] theorem expireHold_frame (s : State) :
    (expireHold s).pending = s.pending ∧ (expireHold s).env = s.env ∧ (expireHold s).mem = s.mem ∧ (expireHold s).mp
    = s.mp ∧ (expireHold s).ks = s.ks ∧ (expireHold s).ps = s.ps ∧ (expireHold s).sp = s.sp ∧ (expireHold s).hm =
    s.hm ∧ (expireHold s).sm = s.sm ∧ (expireHold s).pd = s.pd ∧ (expireHold s).cbm.geometry = s.cbm.geometry ∧
    (expireHold s).cbm.settings = s.cbm.settings ∧ (expireHold s).cbm.standby = s.cbm.standby ∧ (expireHold
    s).cbm.slotBusy = s.cbm.slotBusy := by
  refine ⟨?_, ?_, ?_, ?_, ?_, ?_, ?_, ?_, ?_, ?_, ?_, ?_, ?_, ?_⟩ <;> (unfold expireHold; (repeat' first | split | dsimp only) <;> simp)

@[simp] theorem requestBreak_frame (s : State) :
    (requestBreak s).pending = s.pending ∧ (requestBreak s).env = s.env ∧ (requestBreak s).mem = s.mem ∧
    (requestBreak s).mp = s.mp ∧ (requestBreak s).ks = s.ks ∧ (requestBreak s).ps = s.ps ∧ (requestBreak s).sp =
    s.sp ∧ (requestBreak s).hm = s.hm ∧ (requestBreak s).sm = s.sm ∧ (requestBreak s).pd = s.pd ∧ (requestBreak
    s).cbm.geometry = s.cbm.geometry ∧ (requestBreak s).cbm.settings = s.cbm.settings ∧ (requestBreak s).cbm.standby
    = s.cbm.standby ∧ (requestBreak s).cbm.slotBusy = s.cbm.slotBusy := by
  refine ⟨?_, ?_, ?_, ?_, ?_, ?_, ?_, ?_, ?_, ?_, ?_, ?_, ?_, ?_⟩ <;> (unfold requestBreak; (repeat' first | split | dsimp only) <;> simp)

@[simp] theorem keyBreak_frame (s : State) :
    (keyBreak s).pending = s.pending ∧ (keyBreak s).env = s.env ∧ (keyBreak s).mem = s.mem ∧ (keyBreak s).mp = s.mp
    ∧ (keyBreak s).ks = s.ks ∧ (keyBreak s).ps = s.ps ∧ (keyBreak s).sp = s.sp ∧ (keyBreak s).hm = s.hm ∧ (keyBreak
    s).sm = s.sm ∧ (keyBreak s).pd = s.pd ∧ (keyBreak s).cbm.geometry = s.cbm.geometry ∧ (keyBreak s).cbm.settings =
    s.cbm.settings ∧ (keyBreak s).cbm.standby = s.cbm.standby ∧ (keyBreak s).cbm.slotBusy = s.cbm.slotBusy := by
  refine ⟨?_, ?_, ?_, ?_, ?_, ?_, ?_, ?_, ?_, ?_, ?_, ?_, ?_, ?_⟩ <;> (unfold keyBreak; (repeat' first | split | dsimp only) <;> simp)

@[simp] theorem enqueueKey_frame (c : Byte) (s : State) :
    (enqueueKey c s).pending = s.pending ∧ (enqueueKey c s).env = s.env ∧ (enqueueKey c s).mem = s.mem ∧ (enqueueKey
    c s).mp = s.mp ∧ (enqueueKey c s).ks = s.ks ∧ (enqueueKey c s).ps = s.ps ∧ (enqueueKey c s).sp = s.sp ∧
    (enqueueKey c s).hm = s.hm ∧ (enqueueKey c s).sm = s.sm ∧ (enqueueKey c s).pd = s.pd ∧ (enqueueKey c
    s).cbm.geometry = s.cbm.geometry ∧ (enqueueKey c s).cbm.settings = s.cbm.settings ∧ (enqueueKey c s).cbm.standby
    = s.cbm.standby ∧ (enqueueKey c s).cbm.slotBusy = s.cbm.slotBusy := by
  refine ⟨?_, ?_, ?_, ?_, ?_, ?_, ?_, ?_, ?_, ?_, ?_, ?_, ?_, ?_⟩ <;> (unfold enqueueKey; (repeat' first | split | dsimp only) <;> simp)

@[simp] theorem qualified_frame (s : State) :
    (qualified s).pending = s.pending ∧ (qualified s).env = s.env ∧ (qualified s).mem = s.mem ∧ (qualified s).mp =
    s.mp ∧ (qualified s).cbm = s.cbm ∧ (qualified s).su = s.su ∧ (qualified s).ks = s.ks ∧ (qualified s).ps = s.ps ∧
    (qualified s).sp = s.sp ∧ (qualified s).hm = s.hm ∧ (qualified s).sm = s.sm ∧ (qualified s).pd = s.pd := by
  refine ⟨?_, ?_, ?_, ?_, ?_, ?_, ?_, ?_, ?_, ?_, ?_, ?_⟩ <;> (unfold qualified; (repeat' first | split | dsimp only) <;> simp)

@[simp] theorem listenRunOut_frame (s : State) :
    (listenRunOut s).pending = s.pending ∧ (listenRunOut s).env = s.env ∧ (listenRunOut s).mem = s.mem ∧
    (listenRunOut s).mp = s.mp ∧ (listenRunOut s).ks = s.ks ∧ (listenRunOut s).ps = s.ps ∧ (listenRunOut s).sp =
    s.sp ∧ (listenRunOut s).hm = s.hm ∧ (listenRunOut s).sm = s.sm ∧ (listenRunOut s).pd = s.pd ∧ (listenRunOut
    s).cbm.geometry = s.cbm.geometry ∧ (listenRunOut s).cbm.settings = s.cbm.settings ∧ (listenRunOut s).cbm.standby
    = s.cbm.standby ∧ (listenRunOut s).cbm.slotBusy = s.cbm.slotBusy := by
  refine ⟨?_, ?_, ?_, ?_, ?_, ?_, ?_, ?_, ?_, ?_, ?_, ?_, ?_, ?_⟩ <;> (unfold listenRunOut; (repeat' first | split | dsimp only) <;> simp)

@[simp] theorem lossHoldRunOut_frame (s : State) :
    (lossHoldRunOut s).pending = s.pending ∧ (lossHoldRunOut s).env = s.env ∧ (lossHoldRunOut s).mem = s.mem ∧
    (lossHoldRunOut s).mp = s.mp ∧ (lossHoldRunOut s).ks = s.ks ∧ (lossHoldRunOut s).ps = s.ps ∧ (lossHoldRunOut
    s).sp = s.sp ∧ (lossHoldRunOut s).hm = s.hm ∧ (lossHoldRunOut s).sm = s.sm ∧ (lossHoldRunOut s).pd = s.pd ∧
    (lossHoldRunOut s).cbm.geometry = s.cbm.geometry ∧ (lossHoldRunOut s).cbm.settings = s.cbm.settings ∧
    (lossHoldRunOut s).cbm.standby = s.cbm.standby ∧ (lossHoldRunOut s).cbm.slotBusy = s.cbm.slotBusy := by
  refine ⟨?_, ?_, ?_, ?_, ?_, ?_, ?_, ?_, ?_, ?_, ?_, ?_, ?_, ?_⟩ <;> (unfold lossHoldRunOut; (repeat' first | split | dsimp only) <;> simp)

@[simp] theorem operationDone_frame (s : State) :
    (operationDone s).pending = s.pending ∧ (operationDone s).env = s.env ∧ (operationDone s).mem = s.mem ∧
    (operationDone s).mp = s.mp ∧ (operationDone s).ks = s.ks ∧ (operationDone s).ps = s.ps ∧ (operationDone s).sp =
    s.sp ∧ (operationDone s).hm = s.hm ∧ (operationDone s).sm = s.sm ∧ (operationDone s).pd = s.pd ∧ (operationDone
    s).cbm.geometry = s.cbm.geometry ∧ (operationDone s).cbm.settings = s.cbm.settings ∧ (operationDone
    s).cbm.standby = s.cbm.standby ∧ (operationDone s).cbm.slotBusy = s.cbm.slotBusy := by
  refine ⟨?_, ?_, ?_, ?_, ?_, ?_, ?_, ?_, ?_, ?_, ?_, ?_, ?_, ?_⟩ <;> (unfold operationDone; (repeat' first | split | dsimp only) <;> simp)

@[simp] theorem beginTail_frame (s : State) :
    (beginTail s).pending = s.pending ∧ (beginTail s).env = s.env ∧ (beginTail s).mem = s.mem ∧ (beginTail s).mp =
    s.mp ∧ (beginTail s).cbm = s.cbm ∧ (beginTail s).su = s.su ∧ (beginTail s).ks = s.ks ∧ (beginTail s).ps = s.ps ∧
    (beginTail s).sp = s.sp ∧ (beginTail s).hm = s.hm ∧ (beginTail s).sm = s.sm ∧ (beginTail s).pd = s.pd := by
  refine ⟨?_, ?_, ?_, ?_, ?_, ?_, ?_, ?_, ?_, ?_, ?_, ?_⟩ <;> (unfold beginTail; (repeat' first | split | dsimp only) <;> simp)

end Sys2Proof.Machine
end

