-- ==== Sys2Proof/Laws/FramesPrint.lean ====
section
/-! SUPPORT. Frames: for each operation of the print sequencer, the parts of the state it leaves as they were. -/

set_option linter.unusedTactic false
set_option linter.unreachableTactic false
set_option linter.unnecessarySeqFocus false

namespace Sys2Proof.Machine

open Sys2Proof

@[simp] theorem beginFetch_frame (s : State) :
    (beginFetch s).pending = s.pending ∧ (beginFetch s).env = s.env ∧ (beginFetch s).mem = s.mem ∧ (beginFetch s).mp
    = s.mp ∧ (beginFetch s).cbm = s.cbm ∧ (beginFetch s).lu = s.lu ∧ (beginFetch s).su = s.su ∧ (beginFetch s).ks =
    s.ks ∧ (beginFetch s).sp = s.sp ∧ (beginFetch s).hm = s.hm ∧ (beginFetch s).sm = s.sm ∧ (beginFetch s).pd = s.pd := by
  refine ⟨?_, ?_, ?_, ?_, ?_, ?_, ?_, ?_, ?_, ?_, ?_, ?_⟩ <;> (unfold beginFetch; (repeat' first | split | dsimp only) <;> simp)

@[simp] theorem tryFetch_frame (s : State) :
    (tryFetch s).pending = s.pending ∧ (tryFetch s).env = s.env ∧ (tryFetch s).mem = s.mem ∧ (tryFetch s).mp = s.mp
    ∧ (tryFetch s).cbm = s.cbm ∧ (tryFetch s).lu = s.lu ∧ (tryFetch s).su = s.su ∧ (tryFetch s).ks = s.ks ∧
    (tryFetch s).sp = s.sp ∧ (tryFetch s).hm = s.hm ∧ (tryFetch s).sm = s.sm ∧ (tryFetch s).pd = s.pd := by
  refine ⟨?_, ?_, ?_, ?_, ?_, ?_, ?_, ?_, ?_, ?_, ?_, ?_⟩ <;> (unfold tryFetch; (repeat' first | split | dsimp only) <;> simp)

@[simp] theorem fetchWork_frame (s : State) :
    (fetchWork s).pending = s.pending ∧ (fetchWork s).env = s.env ∧ (fetchWork s).mem = s.mem ∧ (fetchWork s).mp =
    s.mp ∧ (fetchWork s).cbm = s.cbm ∧ (fetchWork s).lu = s.lu ∧ (fetchWork s).su = s.su ∧ (fetchWork s).ks = s.ks ∧
    (fetchWork s).sp = s.sp ∧ (fetchWork s).hm = s.hm ∧ (fetchWork s).sm = s.sm ∧ (fetchWork s).pd = s.pd := by
  refine ⟨?_, ?_, ?_, ?_, ?_, ?_, ?_, ?_, ?_, ?_, ?_, ?_⟩ <;> (unfold fetchWork; (repeat' first | split | dsimp only) <;> simp)

@[simp] theorem actOnPqProd_frame (s : State) :
    (actOnPqProd s).pending = s.pending ∧ (actOnPqProd s).env = s.env ∧ (actOnPqProd s).mem = s.mem ∧ (actOnPqProd
    s).mp = s.mp ∧ (actOnPqProd s).cbm = s.cbm ∧ (actOnPqProd s).lu = s.lu ∧ (actOnPqProd s).su = s.su ∧
    (actOnPqProd s).ks = s.ks ∧ (actOnPqProd s).sp = s.sp ∧ (actOnPqProd s).hm = s.hm ∧ (actOnPqProd s).sm = s.sm ∧
    (actOnPqProd s).pd = s.pd := by
  refine ⟨?_, ?_, ?_, ?_, ?_, ?_, ?_, ?_, ?_, ?_, ?_, ?_⟩ <;> (unfold actOnPqProd; (repeat' first | split | dsimp only) <;> simp)

@[simp] theorem cancelQueue_frame (c : CancelRequest) (s : State) :
    (cancelQueue c s).pending = s.pending ∧ (cancelQueue c s).env = s.env ∧ (cancelQueue c s).mem = s.mem ∧
    (cancelQueue c s).mp = s.mp ∧ (cancelQueue c s).cbm = s.cbm ∧ (cancelQueue c s).lu = s.lu ∧ (cancelQueue c s).su
    = s.su ∧ (cancelQueue c s).ks = s.ks ∧ (cancelQueue c s).sp = s.sp ∧ (cancelQueue c s).hm = s.hm ∧ (cancelQueue
    c s).sm = s.sm ∧ (cancelQueue c s).pd = s.pd := by
  refine ⟨?_, ?_, ?_, ?_, ?_, ?_, ?_, ?_, ?_, ?_, ?_, ?_⟩ <;> (unfold cancelQueue; (repeat' first | split | dsimp only) <;> simp)

@[simp] theorem cancelBadFlag_frame (s : State) :
    (cancelBadFlag s).pending = s.pending ∧ (cancelBadFlag s).env = s.env ∧ (cancelBadFlag s).mem = s.mem ∧
    (cancelBadFlag s).mp = s.mp ∧ (cancelBadFlag s).lu = s.lu ∧ (cancelBadFlag s).su = s.su ∧ (cancelBadFlag s).ks =
    s.ks ∧ (cancelBadFlag s).ps = s.ps ∧ (cancelBadFlag s).sp = s.sp ∧ (cancelBadFlag s).hm = s.hm ∧ (cancelBadFlag
    s).sm = s.sm ∧ (cancelBadFlag s).pd = s.pd ∧ (cancelBadFlag s).cbm.geometry = s.cbm.geometry ∧ (cancelBadFlag
    s).cbm.settings = s.cbm.settings ∧ (cancelBadFlag s).cbm.standby = s.cbm.standby ∧ (cancelBadFlag
    s).cbm.slotBusy = s.cbm.slotBusy := by
  refine ⟨?_, ?_, ?_, ?_, ?_, ?_, ?_, ?_, ?_, ?_, ?_, ?_, ?_, ?_, ?_, ?_⟩ <;> (unfold cancelBadFlag; (repeat' first | split | dsimp only) <;> simp)

@[simp] theorem cancelWaits_frame (s : State) :
    (cancelWaits s).pending = s.pending ∧ (cancelWaits s).env = s.env ∧ (cancelWaits s).mem = s.mem ∧ (cancelWaits
    s).mp = s.mp ∧ (cancelWaits s).cbm = s.cbm ∧ (cancelWaits s).lu = s.lu ∧ (cancelWaits s).su = s.su ∧
    (cancelWaits s).ks = s.ks ∧ (cancelWaits s).ps = s.ps ∧ (cancelWaits s).pd = s.pd ∧ (cancelWaits s).hm.estimates
    = s.hm.estimates := by
  refine ⟨?_, ?_, ?_, ?_, ?_, ?_, ?_, ?_, ?_, ?_, ?_⟩ <;> (unfold cancelWaits; (repeat' first | split | dsimp only) <;> simp)

@[simp] theorem needEmptied_frame (s : State) :
    (needEmptied s).pending = s.pending ∧ (needEmptied s).env = s.env ∧ (needEmptied s).mem = s.mem ∧ (needEmptied
    s).mp = s.mp ∧ (needEmptied s).cbm = s.cbm ∧ (needEmptied s).lu = s.lu ∧ (needEmptied s).su = s.su ∧
    (needEmptied s).ks = s.ks ∧ (needEmptied s).sp = s.sp ∧ (needEmptied s).hm = s.hm ∧ (needEmptied s).sm = s.sm ∧
    (needEmptied s).pd = s.pd := by
  refine ⟨?_, ?_, ?_, ?_, ?_, ?_, ?_, ?_, ?_, ?_, ?_, ?_⟩ <;> (unfold needEmptied; (repeat' first | split | dsimp only) <;> simp)

@[simp] theorem cancelEffect_frame (s : State) :
    (cancelEffect s).pending = s.pending ∧ (cancelEffect s).env = s.env ∧ (cancelEffect s).mem = s.mem ∧
    (cancelEffect s).mp = s.mp ∧ (cancelEffect s).lu = s.lu ∧ (cancelEffect s).su = s.su ∧ (cancelEffect s).ks =
    s.ks ∧ (cancelEffect s).pd = s.pd ∧ (cancelEffect s).cbm.geometry = s.cbm.geometry ∧ (cancelEffect
    s).cbm.settings = s.cbm.settings ∧ (cancelEffect s).cbm.standby = s.cbm.standby ∧ (cancelEffect s).cbm.slotBusy
    = s.cbm.slotBusy ∧ (cancelEffect s).hm.estimates = s.hm.estimates := by
  refine ⟨?_, ?_, ?_, ?_, ?_, ?_, ?_, ?_, ?_, ?_, ?_, ?_, ?_⟩ <;> (unfold cancelEffect; (repeat' first | split | dsimp only) <;> simp)

@[simp] theorem enterHeld_frame (point : HeldPoint) (s : State) :
    (enterHeld point s).pending = s.pending ∧ (enterHeld point s).env = s.env ∧ (enterHeld point s).mem = s.mem ∧
    (enterHeld point s).mp = s.mp ∧ (enterHeld point s).lu = s.lu ∧ (enterHeld point s).su = s.su ∧ (enterHeld point
    s).ks = s.ks ∧ (enterHeld point s).pd = s.pd ∧ (enterHeld point s).cbm.geometry = s.cbm.geometry ∧ (enterHeld
    point s).cbm.settings = s.cbm.settings ∧ (enterHeld point s).cbm.standby = s.cbm.standby ∧ (enterHeld point
    s).cbm.slotBusy = s.cbm.slotBusy ∧ (enterHeld point s).hm.estimates = s.hm.estimates := by
  refine ⟨?_, ?_, ?_, ?_, ?_, ?_, ?_, ?_, ?_, ?_, ?_, ?_, ?_⟩ <;> (unfold enterHeld; (repeat' first | split | dsimp only) <;> simp)

@[simp] theorem enterBatteryHold_frame (atStart : Bool) (s : State) :
    (enterBatteryHold atStart s).pending = s.pending ∧ (enterBatteryHold atStart s).env = s.env ∧ (enterBatteryHold
    atStart s).mem = s.mem ∧ (enterBatteryHold atStart s).mp = s.mp ∧ (enterBatteryHold atStart s).lu = s.lu ∧
    (enterBatteryHold atStart s).su = s.su ∧ (enterBatteryHold atStart s).ks = s.ks ∧ (enterBatteryHold atStart
    s).pd = s.pd ∧ (enterBatteryHold atStart s).cbm.geometry = s.cbm.geometry ∧ (enterBatteryHold atStart
    s).cbm.settings = s.cbm.settings ∧ (enterBatteryHold atStart s).cbm.standby = s.cbm.standby ∧ (enterBatteryHold
    atStart s).cbm.slotBusy = s.cbm.slotBusy ∧ (enterBatteryHold atStart s).hm.estimates = s.hm.estimates := by
  refine ⟨?_, ?_, ?_, ?_, ?_, ?_, ?_, ?_, ?_, ?_, ?_, ?_, ?_⟩ <;> (unfold enterBatteryHold; (repeat' first | split | dsimp only) <;> simp)

@[simp] theorem enterHotHalt_frame (s : State) :
    (enterHotHalt s).pending = s.pending ∧ (enterHotHalt s).env = s.env ∧ (enterHotHalt s).mem = s.mem ∧
    (enterHotHalt s).mp = s.mp ∧ (enterHotHalt s).lu = s.lu ∧ (enterHotHalt s).su = s.su ∧ (enterHotHalt s).ks =
    s.ks ∧ (enterHotHalt s).pd = s.pd ∧ (enterHotHalt s).cbm.geometry = s.cbm.geometry ∧ (enterHotHalt
    s).cbm.settings = s.cbm.settings ∧ (enterHotHalt s).cbm.standby = s.cbm.standby ∧ (enterHotHalt s).cbm.slotBusy
    = s.cbm.slotBusy ∧ (enterHotHalt s).hm.estimates = s.hm.estimates := by
  refine ⟨?_, ?_, ?_, ?_, ?_, ?_, ?_, ?_, ?_, ?_, ?_, ?_, ?_⟩ <;> (unfold enterHotHalt; (repeat' first | split | dsimp only) <;> simp)

@[simp] theorem enterCoolPace_frame (s : State) :
    (enterCoolPace s).pending = s.pending ∧ (enterCoolPace s).env = s.env ∧ (enterCoolPace s).mem = s.mem ∧
    (enterCoolPace s).mp = s.mp ∧ (enterCoolPace s).lu = s.lu ∧ (enterCoolPace s).su = s.su ∧ (enterCoolPace s).ks =
    s.ks ∧ (enterCoolPace s).sp = s.sp ∧ (enterCoolPace s).pd = s.pd ∧ (enterCoolPace s).cbm.geometry =
    s.cbm.geometry ∧ (enterCoolPace s).cbm.settings = s.cbm.settings ∧ (enterCoolPace s).cbm.standby = s.cbm.standby
    ∧ (enterCoolPace s).cbm.slotBusy = s.cbm.slotBusy ∧ (enterCoolPace s).hm.estimates = s.hm.estimates := by
  refine ⟨?_, ?_, ?_, ?_, ?_, ?_, ?_, ?_, ?_, ?_, ?_, ?_, ?_, ?_⟩ <;> (unfold enterCoolPace; (repeat' first | split | dsimp only) <;> simp)

@[simp] theorem burnPhase_frame (p : Plan) (r : RowRecord) (s : State) :
    (burnPhase p r s).pending = s.pending ∧ (burnPhase p r s).env = s.env ∧ (burnPhase p r s).mem = s.mem ∧
    (burnPhase p r s).mp = s.mp ∧ (burnPhase p r s).cbm = s.cbm ∧ (burnPhase p r s).lu = s.lu ∧ (burnPhase p r s).su
    = s.su ∧ (burnPhase p r s).ks = s.ks ∧ (burnPhase p r s).hm = s.hm ∧ (burnPhase p r s).sm = s.sm ∧ (burnPhase p
    r s).pd = s.pd := by
  refine ⟨?_, ?_, ?_, ?_, ?_, ?_, ?_, ?_, ?_, ?_, ?_⟩ <;> (unfold burnPhase; (repeat' first | split | dsimp only) <;> simp)

@[simp] theorem startPhase_frame (p : Plan) (r : RowRecord) (s : State) :
    (startPhase p r s).pending = s.pending ∧ (startPhase p r s).env = s.env ∧ (startPhase p r s).mem = s.mem ∧
    (startPhase p r s).mp = s.mp ∧ (startPhase p r s).lu = s.lu ∧ (startPhase p r s).su = s.su ∧ (startPhase p r
    s).ks = s.ks ∧ (startPhase p r s).pd = s.pd ∧ (startPhase p r s).cbm.geometry = s.cbm.geometry ∧ (startPhase p r
    s).cbm.settings = s.cbm.settings ∧ (startPhase p r s).cbm.standby = s.cbm.standby ∧ (startPhase p r
    s).cbm.slotBusy = s.cbm.slotBusy ∧ (startPhase p r s).hm.estimates = s.hm.estimates := by
  refine ⟨?_, ?_, ?_, ?_, ?_, ?_, ?_, ?_, ?_, ?_, ?_, ?_, ?_⟩ <;> (unfold startPhase; (repeat' first | split | dsimp only) <;> simp)

@[simp] theorem planPoint_frame (s : State) :
    (planPoint s).pending = s.pending ∧ (planPoint s).env = s.env ∧ (planPoint s).mem = s.mem ∧ (planPoint s).mp =
    s.mp ∧ (planPoint s).su = s.su ∧ (planPoint s).ks = s.ks ∧ (planPoint s).cbm.geometry = s.cbm.geometry ∧
    (planPoint s).cbm.settings = s.cbm.settings ∧ (planPoint s).cbm.standby = s.cbm.standby ∧ (planPoint
    s).cbm.slotBusy = s.cbm.slotBusy ∧ (planPoint s).hm.estimates = s.hm.estimates ∧ (planPoint s).pd.position =
    s.pd.position := by
  refine ⟨?_, ?_, ?_, ?_, ?_, ?_, ?_, ?_, ?_, ?_, ?_, ?_⟩ <;> (unfold planPoint; (repeat' first | split | dsimp only) <;> simp)

@[simp] theorem warnCheck_frame (s : State) :
    (warnCheck s).pending = s.pending ∧ (warnCheck s).env = s.env ∧ (warnCheck s).mem = s.mem ∧ (warnCheck s).mp =
    s.mp ∧ (warnCheck s).su = s.su ∧ (warnCheck s).ks = s.ks ∧ (warnCheck s).cbm.geometry = s.cbm.geometry ∧
    (warnCheck s).cbm.settings = s.cbm.settings ∧ (warnCheck s).cbm.standby = s.cbm.standby ∧ (warnCheck
    s).cbm.slotBusy = s.cbm.slotBusy ∧ (warnCheck s).hm.estimates = s.hm.estimates ∧ (warnCheck s).pd.position =
    s.pd.position := by
  refine ⟨?_, ?_, ?_, ?_, ?_, ?_, ?_, ?_, ?_, ?_, ?_, ?_⟩ <;> (unfold warnCheck; (repeat' first | split | dsimp only) <;> simp)

@[simp] theorem startBurnRow_frame (darkness : Option Nat) (s : State) :
    (startBurnRow darkness s).pending = s.pending ∧ (startBurnRow darkness s).mem = s.mem ∧ (startBurnRow darkness
    s).mp = s.mp ∧ (startBurnRow darkness s).su = s.su ∧ (startBurnRow darkness s).ks = s.ks ∧ (startBurnRow
    darkness s).env.now = s.env.now ∧ (startBurnRow darkness s).env.tonePhase = s.env.tonePhase ∧ (startBurnRow
    darkness s).cbm.geometry = s.cbm.geometry ∧ (startBurnRow darkness s).cbm.settings = s.cbm.settings ∧
    (startBurnRow darkness s).cbm.standby = s.cbm.standby ∧ (startBurnRow darkness s).cbm.slotBusy = s.cbm.slotBusy
    ∧ (startBurnRow darkness s).hm.estimates = s.hm.estimates ∧ (startBurnRow darkness s).pd.position =
    s.pd.position := by
  refine ⟨?_, ?_, ?_, ?_, ?_, ?_, ?_, ?_, ?_, ?_, ?_, ?_, ?_⟩ <;> (unfold startBurnRow; (repeat' first | split | dsimp only) <;> simp)

@[simp] theorem startFeedRow_frame (kind : RowKind) (s : State) :
    (startFeedRow kind s).pending = s.pending ∧ (startFeedRow kind s).env = s.env ∧ (startFeedRow kind s).mem =
    s.mem ∧ (startFeedRow kind s).mp = s.mp ∧ (startFeedRow kind s).cbm = s.cbm ∧ (startFeedRow kind s).su = s.su ∧
    (startFeedRow kind s).ks = s.ks ∧ (startFeedRow kind s).sp = s.sp ∧ (startFeedRow kind s).hm = s.hm ∧
    (startFeedRow kind s).sm = s.sm ∧ (startFeedRow kind s).pd.position = s.pd.position := by
  refine ⟨?_, ?_, ?_, ?_, ?_, ?_, ?_, ?_, ?_, ?_, ?_⟩ <;> (unfold startFeedRow; (repeat' first | split | dsimp only) <;> simp)

@[simp] theorem startLatchRow_frame (s : State) :
    (startLatchRow s).pending = s.pending ∧ (startLatchRow s).mem = s.mem ∧ (startLatchRow s).mp = s.mp ∧
    (startLatchRow s).su = s.su ∧ (startLatchRow s).ks = s.ks ∧ (startLatchRow s).env.now = s.env.now ∧
    (startLatchRow s).env.tonePhase = s.env.tonePhase ∧ (startLatchRow s).cbm.geometry = s.cbm.geometry ∧
    (startLatchRow s).cbm.settings = s.cbm.settings ∧ (startLatchRow s).cbm.standby = s.cbm.standby ∧ (startLatchRow
    s).cbm.slotBusy = s.cbm.slotBusy ∧ (startLatchRow s).hm.estimates = s.hm.estimates ∧ (startLatchRow
    s).pd.position = s.pd.position := by
  refine ⟨?_, ?_, ?_, ?_, ?_, ?_, ?_, ?_, ?_, ?_, ?_, ?_, ?_⟩ <;> (unfold startLatchRow; (repeat' first | split | dsimp only) <;> simp)

@[simp] theorem startLocalFeed_frame (s : State) :
    (startLocalFeed s).pending = s.pending ∧ (startLocalFeed s).env = s.env ∧ (startLocalFeed s).mem = s.mem ∧
    (startLocalFeed s).mp = s.mp ∧ (startLocalFeed s).cbm = s.cbm ∧ (startLocalFeed s).su = s.su ∧ (startLocalFeed
    s).ks = s.ks ∧ (startLocalFeed s).sp = s.sp ∧ (startLocalFeed s).hm = s.hm ∧ (startLocalFeed s).sm = s.sm ∧
    (startLocalFeed s).pd.position = s.pd.position := by
  refine ⟨?_, ?_, ?_, ?_, ?_, ?_, ?_, ?_, ?_, ?_, ?_⟩ <;> (unfold startLocalFeed; (repeat' first | split | dsimp only) <;> simp)

@[simp] theorem resumeRow_frame (s : State) :
    (resumeRow s).pending = s.pending ∧ (resumeRow s).env = s.env ∧ (resumeRow s).mem = s.mem ∧ (resumeRow s).mp =
    s.mp ∧ (resumeRow s).su = s.su ∧ (resumeRow s).ks = s.ks ∧ (resumeRow s).cbm.geometry = s.cbm.geometry ∧
    (resumeRow s).cbm.settings = s.cbm.settings ∧ (resumeRow s).cbm.standby = s.cbm.standby ∧ (resumeRow
    s).cbm.slotBusy = s.cbm.slotBusy ∧ (resumeRow s).hm.estimates = s.hm.estimates ∧ (resumeRow s).pd.position =
    s.pd.position := by
  refine ⟨?_, ?_, ?_, ?_, ?_, ?_, ?_, ?_, ?_, ?_, ?_, ?_⟩ <;> (unfold resumeRow; (repeat' first | split | dsimp only) <;> simp)

@[simp] theorem transfer_frame (position : Nat) (d : Descriptor) (image : Image) (s : State) :
    (transfer position d image s).pending = s.pending ∧ (transfer position d image s).env = s.env ∧ (transfer
    position d image s).mem = s.mem ∧ (transfer position d image s).mp = s.mp ∧ (transfer position d image s).cbm =
    s.cbm ∧ (transfer position d image s).lu = s.lu ∧ (transfer position d image s).su = s.su ∧ (transfer position d
    image s).ks = s.ks ∧ (transfer position d image s).sp = s.sp ∧ (transfer position d image s).hm = s.hm ∧
    (transfer position d image s).sm = s.sm ∧ (transfer position d image s).pd = s.pd := by
  refine ⟨?_, ?_, ?_, ?_, ?_, ?_, ?_, ?_, ?_, ?_, ?_, ?_⟩ <;> (unfold transfer; (repeat' first | split | dsimp only) <;> simp)

@[simp] theorem needCache_frame (s : State) :
    (needCache s).pending = s.pending ∧ (needCache s).mem = s.mem ∧ (needCache s).mp = s.mp ∧ (needCache s).su =
    s.su ∧ (needCache s).ks = s.ks ∧ (needCache s).env.now = s.env.now ∧ (needCache s).env.tonePhase =
    s.env.tonePhase ∧ (needCache s).cbm.geometry = s.cbm.geometry ∧ (needCache s).cbm.settings = s.cbm.settings ∧
    (needCache s).cbm.standby = s.cbm.standby ∧ (needCache s).cbm.slotBusy = s.cbm.slotBusy ∧ (needCache
    s).hm.estimates = s.hm.estimates ∧ (needCache s).pd.position = s.pd.position := by
  refine ⟨?_, ?_, ?_, ?_, ?_, ?_, ?_, ?_, ?_, ?_, ?_, ?_, ?_⟩ <;> (unfold needCache; (repeat' first | split | dsimp only) <;> simp)

@[simp] theorem nextRow_frame (s : State) :
    (nextRow s).pending = s.pending ∧ (nextRow s).mem = s.mem ∧ (nextRow s).mp = s.mp ∧ (nextRow s).su = s.su ∧
    (nextRow s).ks = s.ks ∧ (nextRow s).env.now = s.env.now ∧ (nextRow s).env.tonePhase = s.env.tonePhase ∧ (nextRow
    s).cbm.geometry = s.cbm.geometry ∧ (nextRow s).cbm.settings = s.cbm.settings ∧ (nextRow s).cbm.standby =
    s.cbm.standby ∧ (nextRow s).cbm.slotBusy = s.cbm.slotBusy ∧ (nextRow s).hm.estimates = s.hm.estimates ∧ (nextRow
    s).pd.position = s.pd.position := by
  refine ⟨?_, ?_, ?_, ?_, ?_, ?_, ?_, ?_, ?_, ?_, ?_, ?_, ?_⟩ <;> (unfold nextRow; (repeat' first | split | dsimp only) <;> simp)

@[simp] theorem cacheChanged_frame (s : State) :
    (cacheChanged s).pending = s.pending ∧ (cacheChanged s).mem = s.mem ∧ (cacheChanged s).mp = s.mp ∧ (cacheChanged
    s).su = s.su ∧ (cacheChanged s).ks = s.ks ∧ (cacheChanged s).env.now = s.env.now ∧ (cacheChanged
    s).env.tonePhase = s.env.tonePhase ∧ (cacheChanged s).cbm.geometry = s.cbm.geometry ∧ (cacheChanged
    s).cbm.settings = s.cbm.settings ∧ (cacheChanged s).cbm.standby = s.cbm.standby ∧ (cacheChanged s).cbm.slotBusy
    = s.cbm.slotBusy ∧ (cacheChanged s).hm.estimates = s.hm.estimates ∧ (cacheChanged s).pd.position = s.pd.position := by
  refine ⟨?_, ?_, ?_, ?_, ?_, ?_, ?_, ?_, ?_, ?_, ?_, ?_, ?_⟩ <;> (unfold cacheChanged; (repeat' first | split | dsimp only) <;> simp)

@[simp] theorem closeRow_frame (s : State) :
    (closeRow s).pending = s.pending ∧ (closeRow s).env = s.env ∧ (closeRow s).mem = s.mem ∧ (closeRow s).mp = s.mp
    ∧ (closeRow s).cbm = s.cbm ∧ (closeRow s).su = s.su ∧ (closeRow s).ks = s.ks ∧ (closeRow s).hm = s.hm ∧
    (closeRow s).sm = s.sm ∧ (closeRow s).pd.position = s.pd.position := by
  refine ⟨?_, ?_, ?_, ?_, ?_, ?_, ?_, ?_, ?_, ?_⟩ <;> (unfold closeRow; (repeat' first | split | dsimp only) <;> simp)

@[simp] theorem rowEnd_frame (s : State) :
    (rowEnd s).pending = s.pending ∧ (rowEnd s).mem = s.mem ∧ (rowEnd s).mp = s.mp ∧ (rowEnd s).su = s.su ∧ (rowEnd
    s).ks = s.ks ∧ (rowEnd s).env.now = s.env.now ∧ (rowEnd s).env.tonePhase = s.env.tonePhase ∧ (rowEnd
    s).cbm.geometry = s.cbm.geometry ∧ (rowEnd s).cbm.settings = s.cbm.settings ∧ (rowEnd s).cbm.standby =
    s.cbm.standby ∧ (rowEnd s).cbm.slotBusy = s.cbm.slotBusy ∧ (rowEnd s).hm.estimates = s.hm.estimates ∧ (rowEnd
    s).pd.position = s.pd.position := by
  refine ⟨?_, ?_, ?_, ?_, ?_, ?_, ?_, ?_, ?_, ?_, ?_, ?_, ?_⟩ <;> (unfold rowEnd; (repeat' first | split | dsimp only) <;> simp)

@[simp] theorem setHold_frame (s : State) :
    (setHold s).pending = s.pending ∧ (setHold s).env = s.env ∧ (setHold s).mem = s.mem ∧ (setHold s).mp = s.mp ∧
    (setHold s).lu = s.lu ∧ (setHold s).su = s.su ∧ (setHold s).ks = s.ks ∧ (setHold s).pd = s.pd ∧ (setHold
    s).cbm.geometry = s.cbm.geometry ∧ (setHold s).cbm.settings = s.cbm.settings ∧ (setHold s).cbm.standby =
    s.cbm.standby ∧ (setHold s).cbm.slotBusy = s.cbm.slotBusy ∧ (setHold s).hm.estimates = s.hm.estimates := by
  refine ⟨?_, ?_, ?_, ?_, ?_, ?_, ?_, ?_, ?_, ?_, ?_, ?_, ?_⟩ <;> (unfold setHold; (repeat' first | split | dsimp only) <;> simp)

@[simp] theorem clearHold_frame (s : State) :
    (clearHold s).pending = s.pending ∧ (clearHold s).mem = s.mem ∧ (clearHold s).mp = s.mp ∧ (clearHold s).su =
    s.su ∧ (clearHold s).ks = s.ks ∧ (clearHold s).env.now = s.env.now ∧ (clearHold s).env.tonePhase =
    s.env.tonePhase ∧ (clearHold s).cbm.geometry = s.cbm.geometry ∧ (clearHold s).cbm.settings = s.cbm.settings ∧
    (clearHold s).cbm.standby = s.cbm.standby ∧ (clearHold s).cbm.slotBusy = s.cbm.slotBusy ∧ (clearHold
    s).hm.estimates = s.hm.estimates ∧ (clearHold s).pd.position = s.pd.position := by
  refine ⟨?_, ?_, ?_, ?_, ?_, ?_, ?_, ?_, ?_, ?_, ?_, ?_, ?_⟩ <;> (unfold clearHold; (repeat' first | split | dsimp only) <;> simp)

@[simp] theorem toggleHold_frame (s : State) :
    (toggleHold s).pending = s.pending ∧ (toggleHold s).mem = s.mem ∧ (toggleHold s).mp = s.mp ∧ (toggleHold s).su =
    s.su ∧ (toggleHold s).ks = s.ks ∧ (toggleHold s).env.now = s.env.now ∧ (toggleHold s).env.tonePhase =
    s.env.tonePhase ∧ (toggleHold s).cbm.geometry = s.cbm.geometry ∧ (toggleHold s).cbm.settings = s.cbm.settings ∧
    (toggleHold s).cbm.standby = s.cbm.standby ∧ (toggleHold s).cbm.slotBusy = s.cbm.slotBusy ∧ (toggleHold
    s).hm.estimates = s.hm.estimates ∧ (toggleHold s).pd.position = s.pd.position := by
  refine ⟨?_, ?_, ?_, ?_, ?_, ?_, ?_, ?_, ?_, ?_, ?_, ?_, ?_⟩ <;> (unfold toggleHold; (repeat' first | split | dsimp only) <;> simp)

@[simp] theorem localFeed_frame (s : State) :
    (localFeed s).pending = s.pending ∧ (localFeed s).env = s.env ∧ (localFeed s).mem = s.mem ∧ (localFeed s).mp =
    s.mp ∧ (localFeed s).cbm = s.cbm ∧ (localFeed s).su = s.su ∧ (localFeed s).ks = s.ks ∧ (localFeed s).sp = s.sp ∧
    (localFeed s).hm = s.hm ∧ (localFeed s).sm = s.sm ∧ (localFeed s).pd.position = s.pd.position := by
  refine ⟨?_, ?_, ?_, ?_, ?_, ?_, ?_, ?_, ?_, ?_, ?_⟩ <;> (unfold localFeed; (repeat' first | split | dsimp only) <;> simp)

@[simp] theorem requestCancel_frame (s : State) :
    (requestCancel s).pending = s.pending ∧ (requestCancel s).env = s.env ∧ (requestCancel s).mem = s.mem ∧
    (requestCancel s).mp = s.mp ∧ (requestCancel s).lu = s.lu ∧ (requestCancel s).su = s.su ∧ (requestCancel s).ks =
    s.ks ∧ (requestCancel s).pd = s.pd ∧ (requestCancel s).cbm.geometry = s.cbm.geometry ∧ (requestCancel
    s).cbm.settings = s.cbm.settings ∧ (requestCancel s).cbm.standby = s.cbm.standby ∧ (requestCancel
    s).cbm.slotBusy = s.cbm.slotBusy ∧ (requestCancel s).hm.estimates = s.hm.estimates := by
  refine ⟨?_, ?_, ?_, ?_, ?_, ?_, ?_, ?_, ?_, ?_, ?_, ?_, ?_⟩ <;> (unfold requestCancel; (repeat' first | split | dsimp only) <;> simp)

@[simp] theorem idleWork_frame (s : State) :
    (idleWork s).pending = s.pending ∧ (idleWork s).mem = s.mem ∧ (idleWork s).mp = s.mp ∧ (idleWork s).su = s.su ∧
    (idleWork s).ks = s.ks ∧ (idleWork s).env.now = s.env.now ∧ (idleWork s).env.tonePhase = s.env.tonePhase ∧
    (idleWork s).cbm.geometry = s.cbm.geometry ∧ (idleWork s).cbm.settings = s.cbm.settings ∧ (idleWork
    s).cbm.standby = s.cbm.standby ∧ (idleWork s).cbm.slotBusy = s.cbm.slotBusy ∧ (idleWork s).hm.estimates =
    s.hm.estimates ∧ (idleWork s).pd.position = s.pd.position := by
  refine ⟨?_, ?_, ?_, ?_, ?_, ?_, ?_, ?_, ?_, ?_, ?_, ?_, ?_⟩ <;> (unfold idleWork; (repeat' first | split | dsimp only) <;> simp)

@[simp] theorem acknowledgeDescError_frame (s : State) :
    (acknowledgeDescError s).pending = s.pending ∧ (acknowledgeDescError s).mem = s.mem ∧ (acknowledgeDescError
    s).mp = s.mp ∧ (acknowledgeDescError s).su = s.su ∧ (acknowledgeDescError s).ks = s.ks ∧ (acknowledgeDescError
    s).env.now = s.env.now ∧ (acknowledgeDescError s).env.tonePhase = s.env.tonePhase ∧ (acknowledgeDescError
    s).cbm.geometry = s.cbm.geometry ∧ (acknowledgeDescError s).cbm.settings = s.cbm.settings ∧
    (acknowledgeDescError s).cbm.standby = s.cbm.standby ∧ (acknowledgeDescError s).cbm.slotBusy = s.cbm.slotBusy ∧
    (acknowledgeDescError s).hm.estimates = s.hm.estimates ∧ (acknowledgeDescError s).pd.position = s.pd.position := by
  refine ⟨?_, ?_, ?_, ?_, ?_, ?_, ?_, ?_, ?_, ?_, ?_, ?_, ?_⟩ <;> (unfold acknowledgeDescError; (repeat' first | split | dsimp only) <;> simp)

@[simp] theorem endStandbyPrint_frame (s : State) :
    (endStandbyPrint s).pending = s.pending ∧ (endStandbyPrint s).mem = s.mem ∧ (endStandbyPrint s).mp = s.mp ∧
    (endStandbyPrint s).su = s.su ∧ (endStandbyPrint s).ks = s.ks ∧ (endStandbyPrint s).env.now = s.env.now ∧
    (endStandbyPrint s).env.tonePhase = s.env.tonePhase ∧ (endStandbyPrint s).cbm.geometry = s.cbm.geometry ∧
    (endStandbyPrint s).cbm.settings = s.cbm.settings ∧ (endStandbyPrint s).cbm.standby = s.cbm.standby ∧
    (endStandbyPrint s).cbm.slotBusy = s.cbm.slotBusy ∧ (endStandbyPrint s).hm.estimates = s.hm.estimates ∧
    (endStandbyPrint s).pd.position = s.pd.position := by
  refine ⟨?_, ?_, ?_, ?_, ?_, ?_, ?_, ?_, ?_, ?_, ?_, ?_, ?_⟩ <;> (unfold endStandbyPrint; (repeat' first | split | dsimp only) <;> simp)

@[simp] theorem endHalt_frame (s : State) :
    (endHalt s).pending = s.pending ∧ (endHalt s).mem = s.mem ∧ (endHalt s).mp = s.mp ∧ (endHalt s).su = s.su ∧
    (endHalt s).ks = s.ks ∧ (endHalt s).env.now = s.env.now ∧ (endHalt s).env.tonePhase = s.env.tonePhase ∧ (endHalt
    s).cbm.geometry = s.cbm.geometry ∧ (endHalt s).cbm.settings = s.cbm.settings ∧ (endHalt s).cbm.standby =
    s.cbm.standby ∧ (endHalt s).cbm.slotBusy = s.cbm.slotBusy ∧ (endHalt s).hm.estimates = s.hm.estimates ∧ (endHalt
    s).pd.position = s.pd.position := by
  refine ⟨?_, ?_, ?_, ?_, ?_, ?_, ?_, ?_, ?_, ?_, ?_, ?_, ?_⟩ <;> (unfold endHalt; (repeat' first | split | dsimp only) <;> simp)

@[simp] theorem endPacing_frame (s : State) :
    (endPacing s).pending = s.pending ∧ (endPacing s).env = s.env ∧ (endPacing s).mem = s.mem ∧ (endPacing s).mp =
    s.mp ∧ (endPacing s).su = s.su ∧ (endPacing s).ks = s.ks ∧ (endPacing s).cbm.geometry = s.cbm.geometry ∧
    (endPacing s).cbm.settings = s.cbm.settings ∧ (endPacing s).cbm.standby = s.cbm.standby ∧ (endPacing
    s).cbm.slotBusy = s.cbm.slotBusy ∧ (endPacing s).hm.estimates = s.hm.estimates ∧ (endPacing s).pd.position =
    s.pd.position := by
  refine ⟨?_, ?_, ?_, ?_, ?_, ?_, ?_, ?_, ?_, ?_, ?_, ?_⟩ <;> (unfold endPacing; (repeat' first | split | dsimp only) <;> simp)

@[simp] theorem endBatteryHold_frame (s : State) :
    (endBatteryHold s).pending = s.pending ∧ (endBatteryHold s).env = s.env ∧ (endBatteryHold s).mem = s.mem ∧
    (endBatteryHold s).mp = s.mp ∧ (endBatteryHold s).su = s.su ∧ (endBatteryHold s).ks = s.ks ∧ (endBatteryHold
    s).cbm.geometry = s.cbm.geometry ∧ (endBatteryHold s).cbm.settings = s.cbm.settings ∧ (endBatteryHold
    s).cbm.standby = s.cbm.standby ∧ (endBatteryHold s).cbm.slotBusy = s.cbm.slotBusy ∧ (endBatteryHold
    s).hm.estimates = s.hm.estimates ∧ (endBatteryHold s).pd.position = s.pd.position := by
  refine ⟨?_, ?_, ?_, ?_, ?_, ?_, ?_, ?_, ?_, ?_, ?_, ?_⟩ <;> (unfold endBatteryHold; (repeat' first | split | dsimp only) <;> simp)

@[simp] theorem acknowledgeHotStop_frame (relatched : Bool) (s : State) :
    (acknowledgeHotStop relatched s).pending = s.pending ∧ (acknowledgeHotStop relatched s).mem = s.mem ∧
    (acknowledgeHotStop relatched s).mp = s.mp ∧ (acknowledgeHotStop relatched s).su = s.su ∧ (acknowledgeHotStop
    relatched s).ks = s.ks ∧ (acknowledgeHotStop relatched s).env.now = s.env.now ∧ (acknowledgeHotStop relatched
    s).env.tonePhase = s.env.tonePhase ∧ (acknowledgeHotStop relatched s).cbm.geometry = s.cbm.geometry ∧
    (acknowledgeHotStop relatched s).cbm.settings = s.cbm.settings ∧ (acknowledgeHotStop relatched s).cbm.standby =
    s.cbm.standby ∧ (acknowledgeHotStop relatched s).cbm.slotBusy = s.cbm.slotBusy ∧ (acknowledgeHotStop relatched
    s).hm.estimates = s.hm.estimates ∧ (acknowledgeHotStop relatched s).pd.position = s.pd.position := by
  refine ⟨?_, ?_, ?_, ?_, ?_, ?_, ?_, ?_, ?_, ?_, ?_, ?_, ?_⟩ <;> (unfold acknowledgeHotStop; (repeat' first | split | dsimp only) <;> simp)

@[simp] theorem judgeTick_frame (s : State) :
    (judgeTick s).pending = s.pending ∧ (judgeTick s).mem = s.mem ∧ (judgeTick s).mp = s.mp ∧ (judgeTick s).su =
    s.su ∧ (judgeTick s).ks = s.ks ∧ (judgeTick s).env.now = s.env.now ∧ (judgeTick s).env.tonePhase =
    s.env.tonePhase ∧ (judgeTick s).cbm.geometry = s.cbm.geometry ∧ (judgeTick s).cbm.settings = s.cbm.settings ∧
    (judgeTick s).cbm.standby = s.cbm.standby ∧ (judgeTick s).cbm.slotBusy = s.cbm.slotBusy ∧ (judgeTick
    s).hm.estimates = s.hm.estimates ∧ (judgeTick s).pd.position = s.pd.position := by
  refine ⟨?_, ?_, ?_, ?_, ?_, ?_, ?_, ?_, ?_, ?_, ?_, ?_, ?_⟩ <;> (unfold judgeTick; (repeat' first | split | dsimp only) <;> simp)

@[simp] theorem endHeldDots_frame (segment : Nat) (s : State) :
    (endHeldDots segment s).pending = s.pending ∧ (endHeldDots segment s).env = s.env ∧ (endHeldDots segment s).mem
    = s.mem ∧ (endHeldDots segment s).mp = s.mp ∧ (endHeldDots segment s).cbm = s.cbm ∧ (endHeldDots segment s).lu =
    s.lu ∧ (endHeldDots segment s).su = s.su ∧ (endHeldDots segment s).ks = s.ks ∧ (endHeldDots segment s).ps = s.ps
    ∧ (endHeldDots segment s).hm = s.hm ∧ (endHeldDots segment s).sm = s.sm ∧ (endHeldDots segment s).pd = s.pd := by
  refine ⟨?_, ?_, ?_, ?_, ?_, ?_, ?_, ?_, ?_, ?_, ?_, ?_⟩ <;> (unfold endHeldDots; (repeat' first | split | dsimp only) <;> simp)

@[simp] theorem endStrobe_frame (segment : Nat) (s : State) :
    (endStrobe segment s).pending = s.pending ∧ (endStrobe segment s).env = s.env ∧ (endStrobe segment s).mem =
    s.mem ∧ (endStrobe segment s).mp = s.mp ∧ (endStrobe segment s).cbm = s.cbm ∧ (endStrobe segment s).lu = s.lu ∧
    (endStrobe segment s).su = s.su ∧ (endStrobe segment s).ks = s.ks ∧ (endStrobe segment s).ps = s.ps ∧ (endStrobe
    segment s).hm = s.hm ∧ (endStrobe segment s).sm = s.sm ∧ (endStrobe segment s).pd = s.pd := by
  refine ⟨?_, ?_, ?_, ?_, ?_, ?_, ?_, ?_, ?_, ?_, ?_, ?_⟩ <;> (unfold endStrobe; (repeat' first | split | dsimp only) <;> simp)

@[simp] theorem heatPhase_frame (p : Plan) (s : State) :
    (heatPhase p s).pending = s.pending ∧ (heatPhase p s).env = s.env ∧ (heatPhase p s).mem = s.mem ∧ (heatPhase p
    s).mp = s.mp ∧ (heatPhase p s).cbm = s.cbm ∧ (heatPhase p s).lu = s.lu ∧ (heatPhase p s).su = s.su ∧ (heatPhase
    p s).ks = s.ks ∧ (heatPhase p s).ps = s.ps ∧ (heatPhase p s).sp = s.sp ∧ (heatPhase p s).sm = s.sm ∧ (heatPhase
    p s).pd = s.pd := by
  refine ⟨?_, ?_, ?_, ?_, ?_, ?_, ?_, ?_, ?_, ?_, ?_, ?_⟩ <;> (unfold heatPhase; (repeat' first | split | dsimp only) <;> simp)

@[simp] theorem afterPhase_frame (p : Plan) (r : RowRecord) (s : State) :
    (afterPhase p r s).pending = s.pending ∧ (afterPhase p r s).env = s.env ∧ (afterPhase p r s).mem = s.mem ∧
    (afterPhase p r s).mp = s.mp ∧ (afterPhase p r s).su = s.su ∧ (afterPhase p r s).ks = s.ks ∧ (afterPhase p r
    s).cbm.geometry = s.cbm.geometry ∧ (afterPhase p r s).cbm.settings = s.cbm.settings ∧ (afterPhase p r
    s).cbm.standby = s.cbm.standby ∧ (afterPhase p r s).cbm.slotBusy = s.cbm.slotBusy ∧ (afterPhase p r
    s).hm.estimates = s.hm.estimates ∧ (afterPhase p r s).pd.position = s.pd.position := by
  refine ⟨?_, ?_, ?_, ?_, ?_, ?_, ?_, ?_, ?_, ?_, ?_, ?_⟩ <;> (unfold afterPhase; (repeat' first | split | dsimp only) <;> simp)

@[simp] theorem endPhase_frame (s : State) :
    (endPhase s).pending = s.pending ∧ (endPhase s).env = s.env ∧ (endPhase s).mem = s.mem ∧ (endPhase s).mp = s.mp
    ∧ (endPhase s).su = s.su ∧ (endPhase s).ks = s.ks ∧ (endPhase s).cbm.geometry = s.cbm.geometry ∧ (endPhase
    s).cbm.settings = s.cbm.settings ∧ (endPhase s).cbm.standby = s.cbm.standby ∧ (endPhase s).cbm.slotBusy =
    s.cbm.slotBusy ∧ (endPhase s).pd.position = s.pd.position := by
  refine ⟨?_, ?_, ?_, ?_, ?_, ?_, ?_, ?_, ?_, ?_, ?_⟩ <;> (unfold endPhase; (repeat' first | split | dsimp only) <;> simp)

@[simp] theorem stepDone_frame (s : State) :
    (stepDone s).pending = s.pending ∧ (stepDone s).mem = s.mem ∧ (stepDone s).mp = s.mp ∧ (stepDone s).su = s.su ∧
    (stepDone s).ks = s.ks ∧ (stepDone s).env.now = s.env.now ∧ (stepDone s).env.tonePhase = s.env.tonePhase ∧
    (stepDone s).cbm.geometry = s.cbm.geometry ∧ (stepDone s).cbm.settings = s.cbm.settings ∧ (stepDone
    s).cbm.standby = s.cbm.standby ∧ (stepDone s).cbm.slotBusy = s.cbm.slotBusy ∧ (stepDone s).hm.estimates =
    s.hm.estimates := by
  refine ⟨?_, ?_, ?_, ?_, ?_, ?_, ?_, ?_, ?_, ?_, ?_, ?_⟩ <;> (unfold stepDone; (repeat' first | split | dsimp only) <;> simp)

@[simp] theorem tick_frame (s : State) :
    (tick s).pending = s.pending ∧ (tick s).mem = s.mem ∧ (tick s).mp = s.mp ∧ (tick s).su = s.su ∧ (tick s).ks =
    s.ks ∧ (tick s).env.now = s.env.now ∧ (tick s).env.tonePhase = s.env.tonePhase ∧ (tick s).cbm.geometry =
    s.cbm.geometry ∧ (tick s).cbm.settings = s.cbm.settings ∧ (tick s).cbm.standby = s.cbm.standby ∧ (tick
    s).cbm.slotBusy = s.cbm.slotBusy ∧ (tick s).pd.position = s.pd.position := by
  refine ⟨?_, ?_, ?_, ?_, ?_, ?_, ?_, ?_, ?_, ?_, ?_, ?_⟩ <;> (unfold tick; (repeat' first | split | dsimp only) <;> simp)

@[simp] theorem timedReading_frame (s : State) :
    (timedReading s).pending = s.pending ∧ (timedReading s).mem = s.mem ∧ (timedReading s).mp = s.mp ∧ (timedReading
    s).su = s.su ∧ (timedReading s).ks = s.ks ∧ (timedReading s).env.now = s.env.now ∧ (timedReading
    s).env.tonePhase = s.env.tonePhase ∧ (timedReading s).cbm.geometry = s.cbm.geometry ∧ (timedReading
    s).cbm.settings = s.cbm.settings ∧ (timedReading s).cbm.standby = s.cbm.standby ∧ (timedReading s).cbm.slotBusy
    = s.cbm.slotBusy ∧ (timedReading s).hm.estimates = s.hm.estimates ∧ (timedReading s).pd.position = s.pd.position := by
  refine ⟨?_, ?_, ?_, ?_, ?_, ?_, ?_, ?_, ?_, ?_, ?_, ?_, ?_⟩ <;> (unfold timedReading; (repeat' first | split | dsimp only) <;> simp)

end Sys2Proof.Machine
end

