-- ==== Sys2Proof/Laws/FramesKeys.lean ====
section
/-! SUPPORT. Frames: for each operation of the key scanner, the parts of the state it leaves as they were. -/

set_option linter.unusedTactic false
set_option linter.unreachableTactic false
set_option linter.unnecessarySeqFocus false

namespace Sys2Proof.Machine

open Sys2Proof

@[simp] theorem setRecord_frame (code : Nat) (f : KeyRecord → KeyRecord) (s : State) :
    (setRecord code f s).pending = s.pending ∧ (setRecord code f s).env = s.env ∧ (setRecord code f s).mem = s.mem ∧
    (setRecord code f s).mp = s.mp ∧ (setRecord code f s).cbm = s.cbm ∧ (setRecord code f s).lu = s.lu ∧ (setRecord
    code f s).su = s.su ∧ (setRecord code f s).ps = s.ps ∧ (setRecord code f s).sp = s.sp ∧ (setRecord code f s).hm
    = s.hm ∧ (setRecord code f s).sm = s.sm ∧ (setRecord code f s).pd = s.pd := by
  refine ⟨?_, ?_, ?_, ?_, ?_, ?_, ?_, ?_, ?_, ?_, ?_, ?_⟩ <;> (unfold setRecord; (repeat' first | split | dsimp only) <;> simp)

@[simp] theorem setClass_frame (code : Nat) (c : KeyClass) (s : State) :
    (setClass code c s).pending = s.pending ∧ (setClass code c s).env = s.env ∧ (setClass code c s).mem = s.mem ∧
    (setClass code c s).mp = s.mp ∧ (setClass code c s).cbm = s.cbm ∧ (setClass code c s).lu = s.lu ∧ (setClass code
    c s).su = s.su ∧ (setClass code c s).ps = s.ps ∧ (setClass code c s).sp = s.sp ∧ (setClass code c s).hm = s.hm ∧
    (setClass code c s).sm = s.sm ∧ (setClass code c s).pd = s.pd := by
  refine ⟨?_, ?_, ?_, ?_, ?_, ?_, ?_, ?_, ?_, ?_, ?_, ?_⟩ <;> (unfold setClass; (repeat' first | split | dsimp only) <;> simp)

@[simp] theorem setPress_frame (code : Nat) (p : PressState) (s : State) :
    (setPress code p s).pending = s.pending ∧ (setPress code p s).env = s.env ∧ (setPress code p s).mem = s.mem ∧
    (setPress code p s).mp = s.mp ∧ (setPress code p s).cbm = s.cbm ∧ (setPress code p s).lu = s.lu ∧ (setPress code
    p s).su = s.su ∧ (setPress code p s).ps = s.ps ∧ (setPress code p s).sp = s.sp ∧ (setPress code p s).hm = s.hm ∧
    (setPress code p s).sm = s.sm ∧ (setPress code p s).pd = s.pd := by
  refine ⟨?_, ?_, ?_, ?_, ?_, ?_, ?_, ?_, ?_, ?_, ?_, ?_⟩ <;> (unfold setPress; (repeat' first | split | dsimp only) <;> simp)

@[simp] theorem handCharacter_frame (v : Byte) (s : State) :
    (handCharacter v s).pending = s.pending ∧ (handCharacter v s).env = s.env ∧ (handCharacter v s).mem = s.mem ∧
    (handCharacter v s).mp = s.mp ∧ (handCharacter v s).ks = s.ks ∧ (handCharacter v s).ps = s.ps ∧ (handCharacter v
    s).sp = s.sp ∧ (handCharacter v s).hm = s.hm ∧ (handCharacter v s).sm = s.sm ∧ (handCharacter v s).pd = s.pd ∧
    (handCharacter v s).cbm.geometry = s.cbm.geometry ∧ (handCharacter v s).cbm.settings = s.cbm.settings ∧
    (handCharacter v s).cbm.standby = s.cbm.standby ∧ (handCharacter v s).cbm.slotBusy = s.cbm.slotBusy := by
  refine ⟨?_, ?_, ?_, ?_, ?_, ?_, ?_, ?_, ?_, ?_, ?_, ?_, ?_, ?_⟩ <;> (unfold handCharacter; (repeat' first | split | dsimp only) <;> simp)

@[simp] theorem directAction_frame (v : Byte) (s : State) :
    (directAction v s).pending = s.pending ∧ (directAction v s).mem = s.mem ∧ (directAction v s).mp = s.mp ∧
    (directAction v s).ks = s.ks ∧ (directAction v s).env.now = s.env.now ∧ (directAction v s).env.tonePhase =
    s.env.tonePhase ∧ (directAction v s).cbm.geometry = s.cbm.geometry ∧ (directAction v s).cbm.settings =
    s.cbm.settings ∧ (directAction v s).cbm.standby = s.cbm.standby ∧ (directAction v s).cbm.slotBusy =
    s.cbm.slotBusy ∧ (directAction v s).hm.estimates = s.hm.estimates ∧ (directAction v s).pd.position =
    s.pd.position := by
  refine ⟨?_, ?_, ?_, ?_, ?_, ?_, ?_, ?_, ?_, ?_, ?_, ?_⟩ <;> (unfold directAction; (repeat' first | split | dsimp only) <;> simp)

@[simp] theorem actOnEvent_frame (e : KeyEvent) (v : Byte) (s : State) :
    (actOnEvent e v s).pending = s.pending ∧ (actOnEvent e v s).mem = s.mem ∧ (actOnEvent e v s).mp = s.mp ∧
    (actOnEvent e v s).ks = s.ks ∧ (actOnEvent e v s).env.now = s.env.now ∧ (actOnEvent e v s).env.tonePhase =
    s.env.tonePhase ∧ (actOnEvent e v s).cbm.geometry = s.cbm.geometry ∧ (actOnEvent e v s).cbm.settings =
    s.cbm.settings ∧ (actOnEvent e v s).cbm.standby = s.cbm.standby ∧ (actOnEvent e v s).cbm.slotBusy =
    s.cbm.slotBusy ∧ (actOnEvent e v s).hm.estimates = s.hm.estimates ∧ (actOnEvent e v s).pd.position =
    s.pd.position := by
  refine ⟨?_, ?_, ?_, ?_, ?_, ?_, ?_, ?_, ?_, ?_, ?_, ?_⟩ <;> (unfold actOnEvent; (repeat' first | split | dsimp only) <;> simp)

@[simp] theorem beginDeposit_frame (v : Byte) (s : State) :
    (beginDeposit v s).pending = s.pending ∧ (beginDeposit v s).env = s.env ∧ (beginDeposit v s).mem = s.mem ∧
    (beginDeposit v s).mp = s.mp ∧ (beginDeposit v s).cbm = s.cbm ∧ (beginDeposit v s).lu = s.lu ∧ (beginDeposit v
    s).su = s.su ∧ (beginDeposit v s).ps = s.ps ∧ (beginDeposit v s).sp = s.sp ∧ (beginDeposit v s).hm = s.hm ∧
    (beginDeposit v s).sm = s.sm ∧ (beginDeposit v s).pd = s.pd := by
  refine ⟨?_, ?_, ?_, ?_, ?_, ?_, ?_, ?_, ?_, ?_, ?_, ?_⟩ <;> (unfold beginDeposit; (repeat' first | split | dsimp only) <;> simp)

@[simp] theorem beginProcessing_frame (s : State) :
    (beginProcessing s).pending = s.pending ∧ (beginProcessing s).env = s.env ∧ (beginProcessing s).mem = s.mem ∧
    (beginProcessing s).mp = s.mp ∧ (beginProcessing s).cbm = s.cbm ∧ (beginProcessing s).lu = s.lu ∧
    (beginProcessing s).su = s.su ∧ (beginProcessing s).ps = s.ps ∧ (beginProcessing s).sp = s.sp ∧ (beginProcessing
    s).hm = s.hm ∧ (beginProcessing s).sm = s.sm ∧ (beginProcessing s).pd = s.pd := by
  refine ⟨?_, ?_, ?_, ?_, ?_, ?_, ?_, ?_, ?_, ?_, ?_, ?_⟩ <;> (unfold beginProcessing; (repeat' first | split | dsimp only) <;> simp)

@[simp] theorem tryProcess_frame (s : State) :
    (tryProcess s).pending = s.pending ∧ (tryProcess s).env = s.env ∧ (tryProcess s).mem = s.mem ∧ (tryProcess s).mp
    = s.mp ∧ (tryProcess s).cbm = s.cbm ∧ (tryProcess s).lu = s.lu ∧ (tryProcess s).su = s.su ∧ (tryProcess s).ps =
    s.ps ∧ (tryProcess s).sp = s.sp ∧ (tryProcess s).hm = s.hm ∧ (tryProcess s).sm = s.sm ∧ (tryProcess s).pd = s.pd := by
  refine ⟨?_, ?_, ?_, ?_, ?_, ?_, ?_, ?_, ?_, ?_, ?_, ?_⟩ <;> (unfold tryProcess; (repeat' first | split | dsimp only) <;> simp)

@[simp] theorem recordPress_frame (e : KeyEvent) (later : List KeyEvent) (v : Byte) (s : State) :
    (recordPress e later v s).pending = s.pending ∧ (recordPress e later v s).env = s.env ∧ (recordPress e later v
    s).mem = s.mem ∧ (recordPress e later v s).mp = s.mp ∧ (recordPress e later v s).cbm = s.cbm ∧ (recordPress e
    later v s).lu = s.lu ∧ (recordPress e later v s).su = s.su ∧ (recordPress e later v s).ps = s.ps ∧ (recordPress
    e later v s).sp = s.sp ∧ (recordPress e later v s).hm = s.hm ∧ (recordPress e later v s).sm = s.sm ∧
    (recordPress e later v s).pd = s.pd := by
  refine ⟨?_, ?_, ?_, ?_, ?_, ?_, ?_, ?_, ?_, ?_, ?_, ?_⟩ <;> (unfold recordPress; (repeat' first | split | dsimp only) <;> simp)

@[simp] theorem landKeymap_frame (s : State) :
    (landKeymap s).pending = s.pending ∧ (landKeymap s).mem = s.mem ∧ (landKeymap s).mp = s.mp ∧ (landKeymap
    s).env.now = s.env.now ∧ (landKeymap s).env.tonePhase = s.env.tonePhase ∧ (landKeymap s).cbm.geometry =
    s.cbm.geometry ∧ (landKeymap s).cbm.settings = s.cbm.settings ∧ (landKeymap s).cbm.standby = s.cbm.standby ∧
    (landKeymap s).cbm.slotBusy = s.cbm.slotBusy ∧ (landKeymap s).hm.estimates = s.hm.estimates ∧ (landKeymap
    s).pd.position = s.pd.position := by
  refine ⟨?_, ?_, ?_, ?_, ?_, ?_, ?_, ?_, ?_, ?_, ?_⟩ <;> (unfold landKeymap; (repeat' first | split | dsimp only) <;> simp)

@[simp] theorem landKeyByte_frame (i : Nat) (s : State) :
    (landKeyByte i s).pending = s.pending ∧ (landKeyByte i s).env = s.env ∧ (landKeyByte i s).mp = s.mp ∧
    (landKeyByte i s).cbm = s.cbm ∧ (landKeyByte i s).lu = s.lu ∧ (landKeyByte i s).su = s.su ∧ (landKeyByte i s).ps
    = s.ps ∧ (landKeyByte i s).sp = s.sp ∧ (landKeyByte i s).hm = s.hm ∧ (landKeyByte i s).sm = s.sm ∧ (landKeyByte
    i s).pd = s.pd := by
  refine ⟨?_, ?_, ?_, ?_, ?_, ?_, ?_, ?_, ?_, ?_, ?_⟩ <;> (unfold landKeyByte; (repeat' first | split | dsimp only) <;> simp)

@[simp] theorem landKeyProd_frame (s : State) :
    (landKeyProd s).pending = s.pending ∧ (landKeyProd s).env = s.env ∧ (landKeyProd s).mp = s.mp ∧ (landKeyProd
    s).cbm = s.cbm ∧ (landKeyProd s).lu = s.lu ∧ (landKeyProd s).su = s.su ∧ (landKeyProd s).ps = s.ps ∧
    (landKeyProd s).sp = s.sp ∧ (landKeyProd s).hm = s.hm ∧ (landKeyProd s).sm = s.sm ∧ (landKeyProd s).pd = s.pd := by
  refine ⟨?_, ?_, ?_, ?_, ?_, ?_, ?_, ?_, ?_, ?_, ?_⟩ <;> (unfold landKeyProd; (repeat' first | split | dsimp only) <;> simp)

@[simp] theorem grantKs_frame (s : State) :
    (grantKs s).pending = s.pending ∧ (grantKs s).mp = s.mp ∧ (grantKs s).env.now = s.env.now ∧ (grantKs
    s).env.tonePhase = s.env.tonePhase ∧ (grantKs s).cbm.geometry = s.cbm.geometry ∧ (grantKs s).cbm.settings =
    s.cbm.settings ∧ (grantKs s).cbm.standby = s.cbm.standby ∧ (grantKs s).cbm.slotBusy = s.cbm.slotBusy ∧ (grantKs
    s).hm.estimates = s.hm.estimates ∧ (grantKs s).pd.position = s.pd.position := by
  refine ⟨?_, ?_, ?_, ?_, ?_, ?_, ?_, ?_, ?_, ?_⟩ <;> (unfold grantKs; (repeat' first | split | dsimp only) <;> simp)

@[simp] theorem actOnKeyCons_frame (s : State) :
    (actOnKeyCons s).pending = s.pending ∧ (actOnKeyCons s).env = s.env ∧ (actOnKeyCons s).mem = s.mem ∧
    (actOnKeyCons s).mp = s.mp ∧ (actOnKeyCons s).cbm = s.cbm ∧ (actOnKeyCons s).lu = s.lu ∧ (actOnKeyCons s).su =
    s.su ∧ (actOnKeyCons s).ps = s.ps ∧ (actOnKeyCons s).sp = s.sp ∧ (actOnKeyCons s).hm = s.hm ∧ (actOnKeyCons
    s).sm = s.sm ∧ (actOnKeyCons s).pd = s.pd := by
  refine ⟨?_, ?_, ?_, ?_, ?_, ?_, ?_, ?_, ?_, ?_, ?_, ?_⟩ <;> (unfold actOnKeyCons; (repeat' first | split | dsimp only) <;> simp)

@[simp] theorem markPress_frame (e : KeyEvent) (p : PressState) (s : State) :
    (markPress e p s).pending = s.pending ∧ (markPress e p s).env = s.env ∧ (markPress e p s).mem = s.mem ∧
    (markPress e p s).mp = s.mp ∧ (markPress e p s).cbm = s.cbm ∧ (markPress e p s).lu = s.lu ∧ (markPress e p s).su
    = s.su ∧ (markPress e p s).ps = s.ps ∧ (markPress e p s).sp = s.sp ∧ (markPress e p s).hm = s.hm ∧ (markPress e
    p s).sm = s.sm ∧ (markPress e p s).pd = s.pd := by
  refine ⟨?_, ?_, ?_, ?_, ?_, ?_, ?_, ?_, ?_, ?_, ?_, ?_⟩ <;> (unfold markPress; (repeat' first | split | dsimp only) <;> simp)

@[simp] theorem offer_frame (e : KeyEvent) (s : State) :
    (offer e s).pending = s.pending ∧ (offer e s).env = s.env ∧ (offer e s).mem = s.mem ∧ (offer e s).mp = s.mp ∧
    (offer e s).lu = s.lu ∧ (offer e s).su = s.su ∧ (offer e s).ps = s.ps ∧ (offer e s).sp = s.sp ∧ (offer e s).hm =
    s.hm ∧ (offer e s).sm = s.sm ∧ (offer e s).pd = s.pd ∧ (offer e s).cbm.geometry = s.cbm.geometry ∧ (offer e
    s).cbm.settings = s.cbm.settings ∧ (offer e s).cbm.standby = s.cbm.standby ∧ (offer e s).cbm.slotBusy =
    s.cbm.slotBusy := by
  refine ⟨?_, ?_, ?_, ?_, ?_, ?_, ?_, ?_, ?_, ?_, ?_, ?_, ?_, ?_, ?_⟩ <;> (unfold offer; (repeat' first | split | dsimp only) <;> simp)

@[simp] theorem makeEvent_frame (code : Nat) (kind : KeyKind) (s : State) :
    (makeEvent code kind s).pending = s.pending ∧ (makeEvent code kind s).env = s.env ∧ (makeEvent code kind s).mem
    = s.mem ∧ (makeEvent code kind s).mp = s.mp ∧ (makeEvent code kind s).lu = s.lu ∧ (makeEvent code kind s).su =
    s.su ∧ (makeEvent code kind s).ps = s.ps ∧ (makeEvent code kind s).sp = s.sp ∧ (makeEvent code kind s).hm = s.hm
    ∧ (makeEvent code kind s).sm = s.sm ∧ (makeEvent code kind s).pd = s.pd ∧ (makeEvent code kind s).cbm.geometry =
    s.cbm.geometry ∧ (makeEvent code kind s).cbm.settings = s.cbm.settings ∧ (makeEvent code kind s).cbm.standby =
    s.cbm.standby ∧ (makeEvent code kind s).cbm.slotBusy = s.cbm.slotBusy := by
  refine ⟨?_, ?_, ?_, ?_, ?_, ?_, ?_, ?_, ?_, ?_, ?_, ?_, ?_, ?_, ?_⟩ <;> (unfold makeEvent; (repeat' first | split | dsimp only) <;> simp)

@[simp] theorem markModifier_frame (code : Nat) (isDown : Bool) (s : State) :
    (markModifier code isDown s).pending = s.pending ∧ (markModifier code isDown s).env = s.env ∧ (markModifier code
    isDown s).mem = s.mem ∧ (markModifier code isDown s).mp = s.mp ∧ (markModifier code isDown s).cbm = s.cbm ∧
    (markModifier code isDown s).lu = s.lu ∧ (markModifier code isDown s).su = s.su ∧ (markModifier code isDown
    s).ps = s.ps ∧ (markModifier code isDown s).sp = s.sp ∧ (markModifier code isDown s).hm = s.hm ∧ (markModifier
    code isDown s).sm = s.sm ∧ (markModifier code isDown s).pd = s.pd := by
  refine ⟨?_, ?_, ?_, ?_, ?_, ?_, ?_, ?_, ?_, ?_, ?_, ?_⟩ <;> (unfold markModifier; (repeat' first | split | dsimp only) <;> simp)

@[simp] theorem startRepeat_frame (code : Nat) (s : State) :
    (startRepeat code s).pending = s.pending ∧ (startRepeat code s).env = s.env ∧ (startRepeat code s).mem = s.mem ∧
    (startRepeat code s).mp = s.mp ∧ (startRepeat code s).cbm = s.cbm ∧ (startRepeat code s).lu = s.lu ∧
    (startRepeat code s).su = s.su ∧ (startRepeat code s).ps = s.ps ∧ (startRepeat code s).sp = s.sp ∧ (startRepeat
    code s).hm = s.hm ∧ (startRepeat code s).sm = s.sm ∧ (startRepeat code s).pd = s.pd := by
  refine ⟨?_, ?_, ?_, ?_, ?_, ?_, ?_, ?_, ?_, ?_, ?_, ?_⟩ <;> (unfold startRepeat; (repeat' first | split | dsimp only) <;> simp)

@[simp] theorem admitKey_frame (later : List Nat) (code : Nat) (s : State) :
    (admitKey later code s).pending = s.pending ∧ (admitKey later code s).env = s.env ∧ (admitKey later code s).mem
    = s.mem ∧ (admitKey later code s).mp = s.mp ∧ (admitKey later code s).lu = s.lu ∧ (admitKey later code s).su =
    s.su ∧ (admitKey later code s).ps = s.ps ∧ (admitKey later code s).sp = s.sp ∧ (admitKey later code s).hm = s.hm
    ∧ (admitKey later code s).sm = s.sm ∧ (admitKey later code s).pd = s.pd ∧ (admitKey later code s).cbm.geometry =
    s.cbm.geometry ∧ (admitKey later code s).cbm.settings = s.cbm.settings ∧ (admitKey later code s).cbm.standby =
    s.cbm.standby ∧ (admitKey later code s).cbm.slotBusy = s.cbm.slotBusy := by
  refine ⟨?_, ?_, ?_, ?_, ?_, ?_, ?_, ?_, ?_, ?_, ?_, ?_, ?_, ?_, ?_⟩ <;> (unfold admitKey; (repeat' first | split | dsimp only) <;> simp)

@[simp] theorem letGo_frame (code : Nat) (s : State) :
    (letGo code s).pending = s.pending ∧ (letGo code s).env = s.env ∧ (letGo code s).mem = s.mem ∧ (letGo code s).mp
    = s.mp ∧ (letGo code s).lu = s.lu ∧ (letGo code s).su = s.su ∧ (letGo code s).ps = s.ps ∧ (letGo code s).sp =
    s.sp ∧ (letGo code s).hm = s.hm ∧ (letGo code s).sm = s.sm ∧ (letGo code s).pd = s.pd ∧ (letGo code
    s).cbm.geometry = s.cbm.geometry ∧ (letGo code s).cbm.settings = s.cbm.settings ∧ (letGo code s).cbm.standby =
    s.cbm.standby ∧ (letGo code s).cbm.slotBusy = s.cbm.slotBusy := by
  refine ⟨?_, ?_, ?_, ?_, ?_, ?_, ?_, ?_, ?_, ?_, ?_, ?_, ?_, ?_, ?_⟩ <;> (unfold letGo; (repeat' first | split | dsimp only) <;> simp)

@[simp] theorem letGoAll_frame (l : List Nat) (s : State) :
    (letGoAll l s).pending = s.pending ∧ (letGoAll l s).env = s.env ∧ (letGoAll l s).mem = s.mem ∧ (letGoAll l s).mp
    = s.mp ∧ (letGoAll l s).lu = s.lu ∧ (letGoAll l s).su = s.su ∧ (letGoAll l s).ps = s.ps ∧ (letGoAll l s).sp =
    s.sp ∧ (letGoAll l s).hm = s.hm ∧ (letGoAll l s).sm = s.sm ∧ (letGoAll l s).pd = s.pd ∧ (letGoAll l
    s).cbm.geometry = s.cbm.geometry ∧ (letGoAll l s).cbm.settings = s.cbm.settings ∧ (letGoAll l s).cbm.standby =
    s.cbm.standby ∧ (letGoAll l s).cbm.slotBusy = s.cbm.slotBusy := by
  induction l generalizing s with
  | nil => simp [letGoAll]
  | cons c rest ih => simp [letGoAll, ih]

@[simp] theorem admitAll_frame (l : List Nat) (s : State) :
    (admitAll l s).pending = s.pending ∧ (admitAll l s).env = s.env ∧ (admitAll l s).mem = s.mem ∧ (admitAll l s).mp
    = s.mp ∧ (admitAll l s).lu = s.lu ∧ (admitAll l s).su = s.su ∧ (admitAll l s).ps = s.ps ∧ (admitAll l s).sp =
    s.sp ∧ (admitAll l s).hm = s.hm ∧ (admitAll l s).sm = s.sm ∧ (admitAll l s).pd = s.pd ∧ (admitAll l
    s).cbm.geometry = s.cbm.geometry ∧ (admitAll l s).cbm.settings = s.cbm.settings ∧ (admitAll l s).cbm.standby =
    s.cbm.standby ∧ (admitAll l s).cbm.slotBusy = s.cbm.slotBusy := by
  induction l generalizing s with
  | nil => simp [admitAll]
  | cons c rest ih => simp [admitAll, ih]

@[simp] theorem scan_frame (closed : BitVec 80) (s : State) :
    (scan closed s).pending = s.pending ∧ (scan closed s).env = s.env ∧ (scan closed s).mem = s.mem ∧ (scan closed
    s).mp = s.mp ∧ (scan closed s).lu = s.lu ∧ (scan closed s).su = s.su ∧ (scan closed s).ps = s.ps ∧ (scan closed
    s).sp = s.sp ∧ (scan closed s).hm = s.hm ∧ (scan closed s).sm = s.sm ∧ (scan closed s).pd = s.pd ∧ (scan closed
    s).cbm.geometry = s.cbm.geometry ∧ (scan closed s).cbm.settings = s.cbm.settings ∧ (scan closed s).cbm.standby =
    s.cbm.standby ∧ (scan closed s).cbm.slotBusy = s.cbm.slotBusy := by
  refine ⟨?_, ?_, ?_, ?_, ?_, ?_, ?_, ?_, ?_, ?_, ?_, ?_, ?_, ?_, ?_⟩ <;> (unfold scan; (repeat' first | split | dsimp only) <;> simp)

@[simp] theorem restartRepeat_frame (t : RepeatTimer) (s : State) :
    (restartRepeat t s).pending = s.pending ∧ (restartRepeat t s).env = s.env ∧ (restartRepeat t s).mem = s.mem ∧
    (restartRepeat t s).mp = s.mp ∧ (restartRepeat t s).cbm = s.cbm ∧ (restartRepeat t s).lu = s.lu ∧ (restartRepeat
    t s).su = s.su ∧ (restartRepeat t s).ps = s.ps ∧ (restartRepeat t s).sp = s.sp ∧ (restartRepeat t s).hm = s.hm ∧
    (restartRepeat t s).sm = s.sm ∧ (restartRepeat t s).pd = s.pd := by
  refine ⟨?_, ?_, ?_, ?_, ?_, ?_, ?_, ?_, ?_, ?_, ?_, ?_⟩ <;> (unfold restartRepeat; (repeat' first | split | dsimp only) <;> simp)

@[simp] theorem expireRepeat_frame (t : RepeatTimer) (s : State) :
    (expireRepeat t s).pending = s.pending ∧ (expireRepeat t s).env = s.env ∧ (expireRepeat t s).mem = s.mem ∧
    (expireRepeat t s).mp = s.mp ∧ (expireRepeat t s).lu = s.lu ∧ (expireRepeat t s).su = s.su ∧ (expireRepeat t
    s).ps = s.ps ∧ (expireRepeat t s).sp = s.sp ∧ (expireRepeat t s).hm = s.hm ∧ (expireRepeat t s).sm = s.sm ∧
    (expireRepeat t s).pd = s.pd ∧ (expireRepeat t s).cbm.geometry = s.cbm.geometry ∧ (expireRepeat t
    s).cbm.settings = s.cbm.settings ∧ (expireRepeat t s).cbm.standby = s.cbm.standby ∧ (expireRepeat t
    s).cbm.slotBusy = s.cbm.slotBusy := by
  refine ⟨?_, ?_, ?_, ?_, ?_, ?_, ?_, ?_, ?_, ?_, ?_, ?_, ?_, ?_, ?_⟩ <;> (unfold expireRepeat; (repeat' first | split | dsimp only) <;> simp)

@[simp] theorem enterWakeScan_frame (s : State) :
    (enterWakeScan s).pending = s.pending ∧ (enterWakeScan s).env = s.env ∧ (enterWakeScan s).mem = s.mem ∧
    (enterWakeScan s).mp = s.mp ∧ (enterWakeScan s).cbm = s.cbm ∧ (enterWakeScan s).lu = s.lu ∧ (enterWakeScan s).su
    = s.su ∧ (enterWakeScan s).ps = s.ps ∧ (enterWakeScan s).sp = s.sp ∧ (enterWakeScan s).hm = s.hm ∧
    (enterWakeScan s).sm = s.sm ∧ (enterWakeScan s).pd = s.pd := by
  refine ⟨?_, ?_, ?_, ?_, ?_, ?_, ?_, ?_, ?_, ?_, ?_, ?_⟩ <;> (unfold enterWakeScan; (repeat' first | split | dsimp only) <;> simp)

@[simp] theorem leaveStandby_frame (s : State) :
    (leaveStandby s).pending = s.pending ∧ (leaveStandby s).env = s.env ∧ (leaveStandby s).mem = s.mem ∧
    (leaveStandby s).mp = s.mp ∧ (leaveStandby s).lu = s.lu ∧ (leaveStandby s).su = s.su ∧ (leaveStandby s).ps =
    s.ps ∧ (leaveStandby s).sp = s.sp ∧ (leaveStandby s).hm = s.hm ∧ (leaveStandby s).sm = s.sm ∧ (leaveStandby
    s).pd = s.pd ∧ (leaveStandby s).cbm.geometry = s.cbm.geometry ∧ (leaveStandby s).cbm.settings = s.cbm.settings ∧
    (leaveStandby s).cbm.slotBusy = s.cbm.slotBusy := by
  refine ⟨?_, ?_, ?_, ?_, ?_, ?_, ?_, ?_, ?_, ?_, ?_, ?_, ?_, ?_⟩ <;> (unfold leaveStandby; (repeat' first | split | dsimp only) <;> simp)

@[simp] theorem indexWork_frame (s : State) :
    (indexWork s).pending = s.pending ∧ (indexWork s).mem = s.mem ∧ (indexWork s).mp = s.mp ∧ (indexWork s).env.now
    = s.env.now ∧ (indexWork s).env.tonePhase = s.env.tonePhase ∧ (indexWork s).cbm.geometry = s.cbm.geometry ∧
    (indexWork s).cbm.settings = s.cbm.settings ∧ (indexWork s).cbm.standby = s.cbm.standby ∧ (indexWork
    s).cbm.slotBusy = s.cbm.slotBusy ∧ (indexWork s).hm.estimates = s.hm.estimates ∧ (indexWork s).pd.position =
    s.pd.position := by
  refine ⟨?_, ?_, ?_, ?_, ?_, ?_, ?_, ?_, ?_, ?_, ?_⟩ <;> (unfold indexWork; (repeat' first | split | dsimp only) <;> simp)

@[simp] theorem endStandby_frame (s : State) :
    (endStandby s).pending = s.pending ∧ (endStandby s).mem = s.mem ∧ (endStandby s).mp = s.mp ∧ (endStandby
    s).env.now = s.env.now ∧ (endStandby s).env.tonePhase = s.env.tonePhase ∧ (endStandby s).cbm.geometry =
    s.cbm.geometry ∧ (endStandby s).cbm.settings = s.cbm.settings ∧ (endStandby s).cbm.slotBusy = s.cbm.slotBusy ∧
    (endStandby s).hm.estimates = s.hm.estimates ∧ (endStandby s).pd.position = s.pd.position := by
  refine ⟨?_, ?_, ?_, ?_, ?_, ?_, ?_, ?_, ?_, ?_⟩ <;> (unfold endStandby; (repeat' first | split | dsimp only) <;> simp)

@[simp] theorem wakeBy_frame (waking : Nat) (closed : BitVec 80) (s : State) :
    (wakeBy waking closed s).pending = s.pending ∧ (wakeBy waking closed s).mem = s.mem ∧ (wakeBy waking closed
    s).mp = s.mp ∧ (wakeBy waking closed s).env.now = s.env.now ∧ (wakeBy waking closed s).env.tonePhase =
    s.env.tonePhase ∧ (wakeBy waking closed s).cbm.geometry = s.cbm.geometry ∧ (wakeBy waking closed s).cbm.settings
    = s.cbm.settings ∧ (wakeBy waking closed s).cbm.slotBusy = s.cbm.slotBusy ∧ (wakeBy waking closed
    s).hm.estimates = s.hm.estimates ∧ (wakeBy waking closed s).pd.position = s.pd.position := by
  refine ⟨?_, ?_, ?_, ?_, ?_, ?_, ?_, ?_, ?_, ?_⟩ <;> (unfold wakeBy; (repeat' first | split | dsimp only) <;> simp)

@[simp] theorem wakeScan_frame (closed : BitVec 80) (s : State) :
    (wakeScan closed s).pending = s.pending ∧ (wakeScan closed s).mem = s.mem ∧ (wakeScan closed s).mp = s.mp ∧
    (wakeScan closed s).env.now = s.env.now ∧ (wakeScan closed s).env.tonePhase = s.env.tonePhase ∧ (wakeScan closed
    s).cbm.geometry = s.cbm.geometry ∧ (wakeScan closed s).cbm.settings = s.cbm.settings ∧ (wakeScan closed
    s).cbm.slotBusy = s.cbm.slotBusy ∧ (wakeScan closed s).hm.estimates = s.hm.estimates ∧ (wakeScan closed
    s).pd.position = s.pd.position := by
  refine ⟨?_, ?_, ?_, ?_, ?_, ?_, ?_, ?_, ?_, ?_⟩ <;> (unfold wakeScan; (repeat' first | split | dsimp only) <;> simp)

end Sys2Proof.Machine
end

