-- ==== Sys2Proof/Laws/FramesPath.lean ====
section
/-! SUPPORT. Frames: for each operation of the control block monitor, the memory path and the resets, the parts of the state it leaves as they were. -/

set_option linter.unusedTactic false
set_option linter.unreachableTactic false
set_option linter.unnecessarySeqFocus false

namespace Sys2Proof.Machine

open Sys2Proof

@[simp] theorem discardPending_frame (s : State) :
    (discardPending s).pending = s.pending ∧ (discardPending s).env = s.env ∧ (discardPending s).mem = s.mem ∧
    (discardPending s).mp = s.mp ∧ (discardPending s).lu = s.lu ∧ (discardPending s).su = s.su ∧ (discardPending
    s).ks = s.ks ∧ (discardPending s).ps = s.ps ∧ (discardPending s).sp = s.sp ∧ (discardPending s).hm = s.hm ∧
    (discardPending s).sm = s.sm ∧ (discardPending s).pd = s.pd ∧ (discardPending s).cbm.geometry = s.cbm.geometry ∧
    (discardPending s).cbm.settings = s.cbm.settings ∧ (discardPending s).cbm.standby = s.cbm.standby ∧
    (discardPending s).cbm.slotBusy = s.cbm.slotBusy := by
  refine ⟨?_, ?_, ?_, ?_, ?_, ?_, ?_, ?_, ?_, ?_, ?_, ?_, ?_, ?_, ?_, ?_⟩ <;> (unfold discardPending; (repeat' first | split | dsimp only) <;> simp)

@[simp] theorem guardSetEffect_frame (a : Args) (s : State) :
    (guardSetEffect a s).pending = s.pending ∧ (guardSetEffect a s).env = s.env ∧ (guardSetEffect a s).mem = s.mem ∧
    (guardSetEffect a s).lu = s.lu ∧ (guardSetEffect a s).su = s.su ∧ (guardSetEffect a s).ks = s.ks ∧
    (guardSetEffect a s).ps = s.ps ∧ (guardSetEffect a s).sp = s.sp ∧ (guardSetEffect a s).hm = s.hm ∧
    (guardSetEffect a s).sm = s.sm ∧ (guardSetEffect a s).pd = s.pd ∧ (guardSetEffect a s).cbm.geometry =
    s.cbm.geometry ∧ (guardSetEffect a s).cbm.settings = s.cbm.settings ∧ (guardSetEffect a s).cbm.standby =
    s.cbm.standby ∧ (guardSetEffect a s).cbm.slotBusy = s.cbm.slotBusy ∧ (guardSetEffect a s).mp.hostWaiting =
    s.mp.hostWaiting ∧ (guardSetEffect a s).mp.resetHeld = s.mp.resetHeld ∧ (guardSetEffect a s).mp.straps =
    s.mp.straps := by
  refine ⟨?_, ?_, ?_, ?_, ?_, ?_, ?_, ?_, ?_, ?_, ?_, ?_, ?_, ?_, ?_, ?_, ?_, ?_⟩ <;> (unfold guardSetEffect; (repeat' first | split | dsimp only) <;> simp)

@[simp] theorem guardOpenEffect_frame (a : Args) (s : State) :
    (guardOpenEffect a s).pending = s.pending ∧ (guardOpenEffect a s).env = s.env ∧ (guardOpenEffect a s).mem =
    s.mem ∧ (guardOpenEffect a s).lu = s.lu ∧ (guardOpenEffect a s).su = s.su ∧ (guardOpenEffect a s).ks = s.ks ∧
    (guardOpenEffect a s).ps = s.ps ∧ (guardOpenEffect a s).sp = s.sp ∧ (guardOpenEffect a s).hm = s.hm ∧
    (guardOpenEffect a s).sm = s.sm ∧ (guardOpenEffect a s).pd = s.pd ∧ (guardOpenEffect a s).cbm.geometry =
    s.cbm.geometry ∧ (guardOpenEffect a s).cbm.settings = s.cbm.settings ∧ (guardOpenEffect a s).cbm.standby =
    s.cbm.standby ∧ (guardOpenEffect a s).cbm.slotBusy = s.cbm.slotBusy ∧ (guardOpenEffect a s).mp.windows =
    s.mp.windows ∧ (guardOpenEffect a s).mp.hostWaiting = s.mp.hostWaiting ∧ (guardOpenEffect a s).mp.resetHeld =
    s.mp.resetHeld ∧ (guardOpenEffect a s).mp.straps = s.mp.straps := by
  refine ⟨?_, ?_, ?_, ?_, ?_, ?_, ?_, ?_, ?_, ?_, ?_, ?_, ?_, ?_, ?_, ?_, ?_, ?_, ?_⟩ <;> (unfold guardOpenEffect; (repeat' first | split | dsimp only) <;> simp)

@[simp] theorem guardTightEffect_frame (s : State) :
    (guardTightEffect s).pending = s.pending ∧ (guardTightEffect s).env = s.env ∧ (guardTightEffect s).mem = s.mem ∧
    (guardTightEffect s).cbm = s.cbm ∧ (guardTightEffect s).lu = s.lu ∧ (guardTightEffect s).su = s.su ∧
    (guardTightEffect s).ks = s.ks ∧ (guardTightEffect s).ps = s.ps ∧ (guardTightEffect s).sp = s.sp ∧
    (guardTightEffect s).hm = s.hm ∧ (guardTightEffect s).sm = s.sm ∧ (guardTightEffect s).pd = s.pd ∧
    (guardTightEffect s).mp.windows = s.mp.windows ∧ (guardTightEffect s).mp.hostWaiting = s.mp.hostWaiting ∧
    (guardTightEffect s).mp.resetHeld = s.mp.resetHeld ∧ (guardTightEffect s).mp.straps = s.mp.straps := by
  refine ⟨?_, ?_, ?_, ?_, ?_, ?_, ?_, ?_, ?_, ?_, ?_, ?_, ?_, ?_, ?_, ?_⟩ <;> (unfold guardTightEffect; (repeat' first | split | dsimp only) <;> simp)

@[simp] theorem guardCloseEffect_frame (s : State) :
    (guardCloseEffect s).pending = s.pending ∧ (guardCloseEffect s).env = s.env ∧ (guardCloseEffect s).mem = s.mem ∧
    (guardCloseEffect s).cbm = s.cbm ∧ (guardCloseEffect s).lu = s.lu ∧ (guardCloseEffect s).su = s.su ∧
    (guardCloseEffect s).ks = s.ks ∧ (guardCloseEffect s).ps = s.ps ∧ (guardCloseEffect s).sp = s.sp ∧
    (guardCloseEffect s).hm = s.hm ∧ (guardCloseEffect s).sm = s.sm ∧ (guardCloseEffect s).pd = s.pd ∧
    (guardCloseEffect s).mp.windows = s.mp.windows ∧ (guardCloseEffect s).mp.hostWaiting = s.mp.hostWaiting ∧
    (guardCloseEffect s).mp.resetHeld = s.mp.resetHeld ∧ (guardCloseEffect s).mp.straps = s.mp.straps := by
  refine ⟨?_, ?_, ?_, ?_, ?_, ?_, ?_, ?_, ?_, ?_, ?_, ?_, ?_, ?_, ?_, ?_⟩ <;> (unfold guardCloseEffect; (repeat' first | split | dsimp only) <;> simp)

@[simp] theorem softResetEffect_frame (s : State) :
    (softResetEffect s).pending = s.pending ∧ (softResetEffect s).env = s.env ∧ (softResetEffect s).mem = s.mem ∧
    (softResetEffect s).cbm.settings = s.cbm.settings ∧ (softResetEffect s).cbm.slotBusy = s.cbm.slotBusy ∧
    (softResetEffect s).hm.estimates = s.hm.estimates ∧ (softResetEffect s).pd.position = s.pd.position ∧
    (softResetEffect s).mp.windows = s.mp.windows ∧ (softResetEffect s).mp.hostWaiting = s.mp.hostWaiting ∧
    (softResetEffect s).mp.resetHeld = s.mp.resetHeld ∧ (softResetEffect s).mp.straps = s.mp.straps := by
  refine ⟨?_, ?_, ?_, ?_, ?_, ?_, ?_, ?_, ?_, ?_, ?_⟩ <;> rfl

@[simp] theorem confirmableEffect_frame (p : PendingCommand) (s : State) :
    (confirmableEffect p s).pending = s.pending ∧ (confirmableEffect p s).env = s.env ∧ (confirmableEffect p s).mem
    = s.mem ∧ (confirmableEffect p s).cbm.settings = s.cbm.settings ∧ (confirmableEffect p s).cbm.slotBusy =
    s.cbm.slotBusy ∧ (confirmableEffect p s).hm.estimates = s.hm.estimates ∧ (confirmableEffect p s).pd.position =
    s.pd.position ∧ (confirmableEffect p s).mp.hostWaiting = s.mp.hostWaiting ∧ (confirmableEffect p s).mp.resetHeld
    = s.mp.resetHeld ∧ (confirmableEffect p s).mp.straps = s.mp.straps := by
  refine ⟨?_, ?_, ?_, ?_, ?_, ?_, ?_, ?_, ?_, ?_⟩ <;> (unfold confirmableEffect; (repeat' first | split | dsimp only) <;> simp)

@[simp] theorem takeConfirmable_frame (code : Confirmable) (s : State) :
    (takeConfirmable code s).2.pending = s.pending ∧ (takeConfirmable code s).2.env = s.env ∧ (takeConfirmable code
    s).2.mem = s.mem ∧ (takeConfirmable code s).2.mp = s.mp ∧ (takeConfirmable code s).2.lu = s.lu ∧
    (takeConfirmable code s).2.su = s.su ∧ (takeConfirmable code s).2.ks = s.ks ∧ (takeConfirmable code s).2.ps =
    s.ps ∧ (takeConfirmable code s).2.sp = s.sp ∧ (takeConfirmable code s).2.hm = s.hm ∧ (takeConfirmable code
    s).2.sm = s.sm ∧ (takeConfirmable code s).2.pd = s.pd ∧ (takeConfirmable code s).2.cbm.geometry = s.cbm.geometry
    ∧ (takeConfirmable code s).2.cbm.settings = s.cbm.settings ∧ (takeConfirmable code s).2.cbm.standby =
    s.cbm.standby ∧ (takeConfirmable code s).2.cbm.slotBusy = s.cbm.slotBusy := by
  refine ⟨?_, ?_, ?_, ?_, ?_, ?_, ?_, ?_, ?_, ?_, ?_, ?_, ?_, ?_, ?_, ?_⟩ <;> (unfold takeConfirmable; (repeat' first | split | dsimp only) <;> simp)

@[simp] theorem takeConfirm_frame (s : State) :
    (takeConfirm s).2.pending = s.pending ∧ (takeConfirm s).2.env = s.env ∧ (takeConfirm s).2.mem = s.mem ∧
    (takeConfirm s).2.cbm.settings = s.cbm.settings ∧ (takeConfirm s).2.cbm.slotBusy = s.cbm.slotBusy ∧ (takeConfirm
    s).2.hm.estimates = s.hm.estimates ∧ (takeConfirm s).2.pd.position = s.pd.position ∧ (takeConfirm
    s).2.mp.hostWaiting = s.mp.hostWaiting ∧ (takeConfirm s).2.mp.resetHeld = s.mp.resetHeld ∧ (takeConfirm
    s).2.mp.straps = s.mp.straps := by
  refine ⟨?_, ?_, ?_, ?_, ?_, ?_, ?_, ?_, ?_, ?_⟩ <;> (unfold takeConfirm; (repeat' first | split | dsimp only) <;> simp)

@[simp] theorem startConnection_frame (role : Role) (s : State) :
    (startConnection role s).pending = s.pending ∧ (startConnection role s).env = s.env ∧ (startConnection role
    s).mem = s.mem ∧ (startConnection role s).mp = s.mp ∧ (startConnection role s).cbm = s.cbm ∧ (startConnection
    role s).su = s.su ∧ (startConnection role s).ks = s.ks ∧ (startConnection role s).ps = s.ps ∧ (startConnection
    role s).sp = s.sp ∧ (startConnection role s).hm = s.hm ∧ (startConnection role s).sm = s.sm ∧ (startConnection
    role s).pd = s.pd := by
  refine ⟨?_, ?_, ?_, ?_, ?_, ?_, ?_, ?_, ?_, ?_, ?_, ?_⟩ <;> (unfold startConnection; (repeat' first | split | dsimp only) <;> simp)

@[simp] theorem takeConnect_frame (s : State) :
    (takeConnect s).2.pending = s.pending ∧ (takeConnect s).2.env = s.env ∧ (takeConnect s).2.mem = s.mem ∧
    (takeConnect s).2.mp = s.mp ∧ (takeConnect s).2.cbm = s.cbm ∧ (takeConnect s).2.su = s.su ∧ (takeConnect s).2.ks
    = s.ks ∧ (takeConnect s).2.ps = s.ps ∧ (takeConnect s).2.sp = s.sp ∧ (takeConnect s).2.hm = s.hm ∧ (takeConnect
    s).2.sm = s.sm ∧ (takeConnect s).2.pd = s.pd := by
  refine ⟨?_, ?_, ?_, ?_, ?_, ?_, ?_, ?_, ?_, ?_, ?_, ?_⟩ <;> (unfold takeConnect; (repeat' first | split | dsimp only) <;> simp)

@[simp] theorem disconnectEffect_frame (s : State) :
    (disconnectEffect s).pending = s.pending ∧ (disconnectEffect s).env = s.env ∧ (disconnectEffect s).mem = s.mem ∧
    (disconnectEffect s).mp = s.mp ∧ (disconnectEffect s).ks = s.ks ∧ (disconnectEffect s).ps = s.ps ∧
    (disconnectEffect s).sp = s.sp ∧ (disconnectEffect s).hm = s.hm ∧ (disconnectEffect s).sm = s.sm ∧
    (disconnectEffect s).pd = s.pd ∧ (disconnectEffect s).cbm.geometry = s.cbm.geometry ∧ (disconnectEffect
    s).cbm.settings = s.cbm.settings ∧ (disconnectEffect s).cbm.standby = s.cbm.standby ∧ (disconnectEffect
    s).cbm.slotBusy = s.cbm.slotBusy := by
  refine ⟨?_, ?_, ?_, ?_, ?_, ?_, ?_, ?_, ?_, ?_, ?_, ?_, ?_, ?_⟩ <;> (unfold disconnectEffect; (repeat' first | split | dsimp only) <;> simp)

@[simp] theorem takeSendBreak_frame (s : State) :
    (takeSendBreak s).2.pending = s.pending ∧ (takeSendBreak s).2.env = s.env ∧ (takeSendBreak s).2.mem = s.mem ∧
    (takeSendBreak s).2.mp = s.mp ∧ (takeSendBreak s).2.ks = s.ks ∧ (takeSendBreak s).2.ps = s.ps ∧ (takeSendBreak
    s).2.sp = s.sp ∧ (takeSendBreak s).2.hm = s.hm ∧ (takeSendBreak s).2.sm = s.sm ∧ (takeSendBreak s).2.pd = s.pd ∧
    (takeSendBreak s).2.cbm.geometry = s.cbm.geometry ∧ (takeSendBreak s).2.cbm.settings = s.cbm.settings ∧
    (takeSendBreak s).2.cbm.standby = s.cbm.standby ∧ (takeSendBreak s).2.cbm.slotBusy = s.cbm.slotBusy := by
  refine ⟨?_, ?_, ?_, ?_, ?_, ?_, ?_, ?_, ?_, ?_, ?_, ?_, ?_, ?_⟩ <;> (unfold takeSendBreak; (repeat' first | split | dsimp only) <;> simp)

@[simp] theorem printHoldEffect_frame (s : State) :
    (printHoldEffect s).pending = s.pending ∧ (printHoldEffect s).env = s.env ∧ (printHoldEffect s).mem = s.mem ∧
    (printHoldEffect s).mp = s.mp ∧ (printHoldEffect s).lu = s.lu ∧ (printHoldEffect s).su = s.su ∧ (printHoldEffect
    s).ks = s.ks ∧ (printHoldEffect s).pd = s.pd ∧ (printHoldEffect s).cbm.geometry = s.cbm.geometry ∧
    (printHoldEffect s).cbm.settings = s.cbm.settings ∧ (printHoldEffect s).cbm.standby = s.cbm.standby ∧
    (printHoldEffect s).cbm.slotBusy = s.cbm.slotBusy ∧ (printHoldEffect s).hm.estimates = s.hm.estimates := by
  refine ⟨?_, ?_, ?_, ?_, ?_, ?_, ?_, ?_, ?_, ?_, ?_, ?_, ?_⟩ <;> (unfold printHoldEffect; (repeat' first | split | dsimp only) <;> simp)

@[simp] theorem printResumeEffect_frame (s : State) :
    (printResumeEffect s).pending = s.pending ∧ (printResumeEffect s).mem = s.mem ∧ (printResumeEffect s).mp = s.mp
    ∧ (printResumeEffect s).su = s.su ∧ (printResumeEffect s).ks = s.ks ∧ (printResumeEffect s).env.now = s.env.now
    ∧ (printResumeEffect s).env.tonePhase = s.env.tonePhase ∧ (printResumeEffect s).cbm.geometry = s.cbm.geometry ∧
    (printResumeEffect s).cbm.settings = s.cbm.settings ∧ (printResumeEffect s).cbm.standby = s.cbm.standby ∧
    (printResumeEffect s).cbm.slotBusy = s.cbm.slotBusy ∧ (printResumeEffect s).hm.estimates = s.hm.estimates ∧
    (printResumeEffect s).pd.position = s.pd.position := by
  refine ⟨?_, ?_, ?_, ?_, ?_, ?_, ?_, ?_, ?_, ?_, ?_, ?_, ?_⟩ <;> (unfold printResumeEffect; (repeat' first | split | dsimp only) <;> simp)

@[simp] theorem ringsResetEffect_frame (s : State) :
    (ringsResetEffect s).pending = s.pending ∧ (ringsResetEffect s).env = s.env ∧ (ringsResetEffect s).mem = s.mem ∧
    (ringsResetEffect s).mp = s.mp ∧ (ringsResetEffect s).sp = s.sp ∧ (ringsResetEffect s).hm = s.hm ∧
    (ringsResetEffect s).sm = s.sm ∧ (ringsResetEffect s).pd = s.pd ∧ (ringsResetEffect s).cbm.settings =
    s.cbm.settings ∧ (ringsResetEffect s).cbm.standby = s.cbm.standby ∧ (ringsResetEffect s).cbm.slotBusy =
    s.cbm.slotBusy := by
  refine ⟨?_, ?_, ?_, ?_, ?_, ?_, ?_, ?_, ?_, ?_, ?_⟩ <;> rfl

@[simp] theorem takeRingsReset_frame (s : State) :
    (takeRingsReset s).2.pending = s.pending ∧ (takeRingsReset s).2.env = s.env ∧ (takeRingsReset s).2.mem = s.mem ∧
    (takeRingsReset s).2.mp = s.mp ∧ (takeRingsReset s).2.sp = s.sp ∧ (takeRingsReset s).2.hm = s.hm ∧
    (takeRingsReset s).2.sm = s.sm ∧ (takeRingsReset s).2.pd = s.pd ∧ (takeRingsReset s).2.cbm.settings =
    s.cbm.settings ∧ (takeRingsReset s).2.cbm.standby = s.cbm.standby ∧ (takeRingsReset s).2.cbm.slotBusy =
    s.cbm.slotBusy := by
  refine ⟨?_, ?_, ?_, ?_, ?_, ?_, ?_, ?_, ?_, ?_, ?_⟩ <;> (unfold takeRingsReset; (repeat' first | split | dsimp only) <;> simp)

@[simp] theorem reportGuardHit_frame (lo : Byte) (s : State) :
    (reportGuardHit lo s).pending = s.pending ∧ (reportGuardHit lo s).env = s.env ∧ (reportGuardHit lo s).mem =
    s.mem ∧ (reportGuardHit lo s).cbm = s.cbm ∧ (reportGuardHit lo s).lu = s.lu ∧ (reportGuardHit lo s).su = s.su ∧
    (reportGuardHit lo s).ks = s.ks ∧ (reportGuardHit lo s).ps = s.ps ∧ (reportGuardHit lo s).sp = s.sp ∧
    (reportGuardHit lo s).hm = s.hm ∧ (reportGuardHit lo s).sm = s.sm ∧ (reportGuardHit lo s).pd = s.pd ∧
    (reportGuardHit lo s).mp.windows = s.mp.windows ∧ (reportGuardHit lo s).mp.hostWaiting = s.mp.hostWaiting ∧
    (reportGuardHit lo s).mp.resetHeld = s.mp.resetHeld ∧ (reportGuardHit lo s).mp.straps = s.mp.straps := by
  refine ⟨?_, ?_, ?_, ?_, ?_, ?_, ?_, ?_, ?_, ?_, ?_, ?_, ?_, ?_, ?_, ?_⟩ <;> (unfold reportGuardHit; (repeat' first | split | dsimp only) <;> simp)

@[simp] theorem reportDescError_frame (lo : Byte) (s : State) :
    (reportDescError lo s).pending = s.pending ∧ (reportDescError lo s).mem = s.mem ∧ (reportDescError lo s).mp =
    s.mp ∧ (reportDescError lo s).su = s.su ∧ (reportDescError lo s).ks = s.ks ∧ (reportDescError lo s).env.now =
    s.env.now ∧ (reportDescError lo s).env.tonePhase = s.env.tonePhase ∧ (reportDescError lo s).cbm.geometry =
    s.cbm.geometry ∧ (reportDescError lo s).cbm.settings = s.cbm.settings ∧ (reportDescError lo s).cbm.standby =
    s.cbm.standby ∧ (reportDescError lo s).cbm.slotBusy = s.cbm.slotBusy ∧ (reportDescError lo s).hm.estimates =
    s.hm.estimates ∧ (reportDescError lo s).pd.position = s.pd.position := by
  refine ⟨?_, ?_, ?_, ?_, ?_, ?_, ?_, ?_, ?_, ?_, ?_, ?_, ?_⟩ <;> (unfold reportDescError; (repeat' first | split | dsimp only) <;> simp)

@[simp] theorem reportHotStop_frame (hi : Byte) (again : Bool) (s : State) :
    (reportHotStop hi again s).pending = s.pending ∧ (reportHotStop hi again s).mem = s.mem ∧ (reportHotStop hi
    again s).mp = s.mp ∧ (reportHotStop hi again s).su = s.su ∧ (reportHotStop hi again s).ks = s.ks ∧
    (reportHotStop hi again s).env.now = s.env.now ∧ (reportHotStop hi again s).env.tonePhase = s.env.tonePhase ∧
    (reportHotStop hi again s).cbm.geometry = s.cbm.geometry ∧ (reportHotStop hi again s).cbm.settings =
    s.cbm.settings ∧ (reportHotStop hi again s).cbm.standby = s.cbm.standby ∧ (reportHotStop hi again
    s).cbm.slotBusy = s.cbm.slotBusy ∧ (reportHotStop hi again s).hm.estimates = s.hm.estimates ∧ (reportHotStop hi
    again s).pd.position = s.pd.position := by
  refine ⟨?_, ?_, ?_, ?_, ?_, ?_, ?_, ?_, ?_, ?_, ?_, ?_, ?_⟩ <;> (unfold reportHotStop; (repeat' first | split | dsimp only) <;> simp)

@[simp] theorem acknowledge_frame (lo hi : Byte) (s : State) :
    (acknowledge lo hi s).pending = s.pending ∧ (acknowledge lo hi s).mem = s.mem ∧ (acknowledge lo hi s).su = s.su
    ∧ (acknowledge lo hi s).ks = s.ks ∧ (acknowledge lo hi s).env.now = s.env.now ∧ (acknowledge lo hi
    s).env.tonePhase = s.env.tonePhase ∧ (acknowledge lo hi s).cbm.geometry = s.cbm.geometry ∧ (acknowledge lo hi
    s).cbm.settings = s.cbm.settings ∧ (acknowledge lo hi s).cbm.standby = s.cbm.standby ∧ (acknowledge lo hi
    s).cbm.slotBusy = s.cbm.slotBusy ∧ (acknowledge lo hi s).hm.estimates = s.hm.estimates ∧ (acknowledge lo hi
    s).pd.position = s.pd.position ∧ (acknowledge lo hi s).mp.windows = s.mp.windows ∧ (acknowledge lo hi
    s).mp.hostWaiting = s.mp.hostWaiting ∧ (acknowledge lo hi s).mp.resetHeld = s.mp.resetHeld ∧ (acknowledge lo hi
    s).mp.straps = s.mp.straps := by
  refine ⟨?_, ?_, ?_, ?_, ?_, ?_, ?_, ?_, ?_, ?_, ?_, ?_, ?_, ?_, ?_, ?_⟩ <;> (unfold acknowledge; (repeat' first | split | dsimp only) <;> simp)

@[simp] theorem acknowledgeWord_frame (word : FlagWord) (mask : Byte) (s : State) :
    (acknowledgeWord word mask s).pending = s.pending ∧ (acknowledgeWord word mask s).mem = s.mem ∧ (acknowledgeWord
    word mask s).su = s.su ∧ (acknowledgeWord word mask s).ks = s.ks ∧ (acknowledgeWord word mask s).env.now =
    s.env.now ∧ (acknowledgeWord word mask s).env.tonePhase = s.env.tonePhase ∧ (acknowledgeWord word mask
    s).cbm.geometry = s.cbm.geometry ∧ (acknowledgeWord word mask s).cbm.settings = s.cbm.settings ∧
    (acknowledgeWord word mask s).cbm.standby = s.cbm.standby ∧ (acknowledgeWord word mask s).cbm.slotBusy =
    s.cbm.slotBusy ∧ (acknowledgeWord word mask s).hm.estimates = s.hm.estimates ∧ (acknowledgeWord word mask
    s).pd.position = s.pd.position ∧ (acknowledgeWord word mask s).mp.windows = s.mp.windows ∧ (acknowledgeWord word
    mask s).mp.hostWaiting = s.mp.hostWaiting ∧ (acknowledgeWord word mask s).mp.resetHeld = s.mp.resetHeld ∧
    (acknowledgeWord word mask s).mp.straps = s.mp.straps := by
  refine ⟨?_, ?_, ?_, ?_, ?_, ?_, ?_, ?_, ?_, ?_, ?_, ?_, ?_, ?_, ?_, ?_⟩ <;> (unfold acknowledgeWord; (repeat' first | split | dsimp only) <;> simp)

@[simp] theorem takeStandby_frame (s : State) :
    (takeStandby s).2.pending = s.pending ∧ (takeStandby s).2.env = s.env ∧ (takeStandby s).2.mem = s.mem ∧
    (takeStandby s).2.mp = s.mp ∧ (takeStandby s).2.lu = s.lu ∧ (takeStandby s).2.su = s.su ∧ (takeStandby s).2.ps =
    s.ps ∧ (takeStandby s).2.sp = s.sp ∧ (takeStandby s).2.hm = s.hm ∧ (takeStandby s).2.pd = s.pd ∧ (takeStandby
    s).2.cbm.geometry = s.cbm.geometry ∧ (takeStandby s).2.cbm.settings = s.cbm.settings ∧ (takeStandby
    s).2.cbm.slotBusy = s.cbm.slotBusy := by
  refine ⟨?_, ?_, ?_, ?_, ?_, ?_, ?_, ?_, ?_, ?_, ?_, ?_, ?_⟩ <;> (unfold takeStandby; (repeat' first | split | dsimp only) <;> simp)

@[simp] theorem wakeEffect_frame (s : State) :
    (wakeEffect s).pending = s.pending ∧ (wakeEffect s).mem = s.mem ∧ (wakeEffect s).mp = s.mp ∧ (wakeEffect
    s).env.now = s.env.now ∧ (wakeEffect s).env.tonePhase = s.env.tonePhase ∧ (wakeEffect s).cbm.geometry =
    s.cbm.geometry ∧ (wakeEffect s).cbm.settings = s.cbm.settings ∧ (wakeEffect s).cbm.slotBusy = s.cbm.slotBusy ∧
    (wakeEffect s).hm.estimates = s.hm.estimates ∧ (wakeEffect s).pd.position = s.pd.position := by
  refine ⟨?_, ?_, ?_, ?_, ?_, ?_, ?_, ?_, ?_, ?_⟩ <;> (unfold wakeEffect; (repeat' first | split | dsimp only) <;> simp)

@[simp] theorem runCommand_frame (c : Command) (s : State) :
    (runCommand c s).2.pending = s.pending ∧ (runCommand c s).2.mem = s.mem ∧ (runCommand c s).2.env.now = s.env.now
    ∧ (runCommand c s).2.env.tonePhase = s.env.tonePhase ∧ (runCommand c s).2.cbm.settings = s.cbm.settings ∧
    (runCommand c s).2.cbm.slotBusy = s.cbm.slotBusy ∧ (runCommand c s).2.hm.estimates = s.hm.estimates ∧
    (runCommand c s).2.pd.position = s.pd.position ∧ (runCommand c s).2.mp.hostWaiting = s.mp.hostWaiting ∧
    (runCommand c s).2.mp.resetHeld = s.mp.resetHeld ∧ (runCommand c s).2.mp.straps = s.mp.straps := by
  refine ⟨?_, ?_, ?_, ?_, ?_, ?_, ?_, ?_, ?_, ?_, ?_⟩ <;> (unfold runCommand; (repeat' first | split | dsimp only) <;> simp)

@[simp] theorem decideAnswer_frame (code : Byte) (s : State) :
    (decideAnswer code s).2.pending = s.pending ∧ (decideAnswer code s).2.mem = s.mem ∧ (decideAnswer code
    s).2.env.now = s.env.now ∧ (decideAnswer code s).2.env.tonePhase = s.env.tonePhase ∧ (decideAnswer code
    s).2.cbm.settings = s.cbm.settings ∧ (decideAnswer code s).2.cbm.slotBusy = s.cbm.slotBusy ∧ (decideAnswer code
    s).2.hm.estimates = s.hm.estimates ∧ (decideAnswer code s).2.pd.position = s.pd.position ∧ (decideAnswer code
    s).2.mp.hostWaiting = s.mp.hostWaiting ∧ (decideAnswer code s).2.mp.resetHeld = s.mp.resetHeld ∧ (decideAnswer
    code s).2.mp.straps = s.mp.straps := by
  refine ⟨?_, ?_, ?_, ?_, ?_, ?_, ?_, ?_, ?_, ?_, ?_⟩ <;> (unfold decideAnswer; (repeat' first | split | dsimp only) <;> simp)

@[simp] theorem takeCommand_frame (code : Byte) (s : State) :
    (takeCommand code s).pending = s.pending ∧ (takeCommand code s).mem = s.mem ∧ (takeCommand code s).env.now =
    s.env.now ∧ (takeCommand code s).env.tonePhase = s.env.tonePhase ∧ (takeCommand code s).cbm.settings =
    s.cbm.settings ∧ (takeCommand code s).hm.estimates = s.hm.estimates ∧ (takeCommand code s).pd.position =
    s.pd.position ∧ (takeCommand code s).mp.hostWaiting = s.mp.hostWaiting ∧ (takeCommand code s).mp.resetHeld =
    s.mp.resetHeld ∧ (takeCommand code s).mp.straps = s.mp.straps := by
  refine ⟨?_, ?_, ?_, ?_, ?_, ?_, ?_, ?_, ?_, ?_⟩ <;> (unfold takeCommand; (repeat' first | split | dsimp only) <;> simp)

@[simp] theorem takeArg_frame (index : Fin 6) (v : Byte) (s : State) :
    (takeArg index v s).pending = s.pending ∧ (takeArg index v s).env = s.env ∧ (takeArg index v s).mem = s.mem ∧
    (takeArg index v s).mp = s.mp ∧ (takeArg index v s).lu = s.lu ∧ (takeArg index v s).su = s.su ∧ (takeArg index v
    s).ks = s.ks ∧ (takeArg index v s).ps = s.ps ∧ (takeArg index v s).sp = s.sp ∧ (takeArg index v s).hm = s.hm ∧
    (takeArg index v s).sm = s.sm ∧ (takeArg index v s).pd = s.pd ∧ (takeArg index v s).cbm.geometry =
    s.cbm.geometry ∧ (takeArg index v s).cbm.settings = s.cbm.settings ∧ (takeArg index v s).cbm.standby =
    s.cbm.standby ∧ (takeArg index v s).cbm.slotBusy = s.cbm.slotBusy := by
  refine ⟨?_, ?_, ?_, ?_, ?_, ?_, ?_, ?_, ?_, ?_, ?_, ?_, ?_, ?_, ?_, ?_⟩ <;> (unfold takeArg; (repeat' first | split | dsimp only) <;> simp)

@[simp] theorem takeSetting_frame (reg : SettingReg) (v : Byte) (s : State) :
    (takeSetting reg v s).pending = s.pending ∧ (takeSetting reg v s).env = s.env ∧ (takeSetting reg v s).mem =
    s.mem ∧ (takeSetting reg v s).mp = s.mp ∧ (takeSetting reg v s).ks = s.ks ∧ (takeSetting reg v s).ps = s.ps ∧
    (takeSetting reg v s).sp = s.sp ∧ (takeSetting reg v s).hm = s.hm ∧ (takeSetting reg v s).sm = s.sm ∧
    (takeSetting reg v s).pd = s.pd ∧ (takeSetting reg v s).cbm.geometry = s.cbm.geometry ∧ (takeSetting reg v
    s).cbm.standby = s.cbm.standby ∧ (takeSetting reg v s).cbm.slotBusy = s.cbm.slotBusy := by
  refine ⟨?_, ?_, ?_, ?_, ?_, ?_, ?_, ?_, ?_, ?_, ?_, ?_, ?_⟩ <;> (unfold takeSetting; (repeat' first | split | dsimp only) <;> simp)

@[simp] theorem takeGeometry_frame (reg : GeometryReg) (v : Byte) (s : State) :
    (takeGeometry reg v s).pending = s.pending ∧ (takeGeometry reg v s).env = s.env ∧ (takeGeometry reg v s).mem =
    s.mem ∧ (takeGeometry reg v s).mp = s.mp ∧ (takeGeometry reg v s).lu = s.lu ∧ (takeGeometry reg v s).su = s.su ∧
    (takeGeometry reg v s).ks = s.ks ∧ (takeGeometry reg v s).ps = s.ps ∧ (takeGeometry reg v s).sp = s.sp ∧
    (takeGeometry reg v s).hm = s.hm ∧ (takeGeometry reg v s).sm = s.sm ∧ (takeGeometry reg v s).pd = s.pd ∧
    (takeGeometry reg v s).cbm.geometry = s.cbm.geometry ∧ (takeGeometry reg v s).cbm.settings = s.cbm.settings ∧
    (takeGeometry reg v s).cbm.standby = s.cbm.standby ∧ (takeGeometry reg v s).cbm.slotBusy = s.cbm.slotBusy := by
  refine ⟨?_, ?_, ?_, ?_, ?_, ?_, ?_, ?_, ?_, ?_, ?_, ?_, ?_, ?_, ?_, ?_⟩ <;> (unfold takeGeometry; (repeat' first | split | dsimp only) <;> simp)

@[simp] theorem setProducer_frame (reg : ProducerIndex) (n : Nat) (s : State) :
    (setProducer reg n s).pending = s.pending ∧ (setProducer reg n s).env = s.env ∧ (setProducer reg n s).mem =
    s.mem ∧ (setProducer reg n s).mp = s.mp ∧ (setProducer reg n s).lu = s.lu ∧ (setProducer reg n s).su = s.su ∧
    (setProducer reg n s).ks = s.ks ∧ (setProducer reg n s).ps = s.ps ∧ (setProducer reg n s).sp = s.sp ∧
    (setProducer reg n s).hm = s.hm ∧ (setProducer reg n s).sm = s.sm ∧ (setProducer reg n s).pd = s.pd ∧
    (setProducer reg n s).cbm.geometry = s.cbm.geometry ∧ (setProducer reg n s).cbm.settings = s.cbm.settings ∧
    (setProducer reg n s).cbm.standby = s.cbm.standby ∧ (setProducer reg n s).cbm.slotBusy = s.cbm.slotBusy := by
  refine ⟨?_, ?_, ?_, ?_, ?_, ?_, ?_, ?_, ?_, ?_, ?_, ?_, ?_, ?_, ?_, ?_⟩ <;> (unfold setProducer; (repeat' first | split | dsimp only) <;> simp)

@[simp] theorem actOnProducer_frame (reg : ProducerIndex) (s : State) :
    (actOnProducer reg s).pending = s.pending ∧ (actOnProducer reg s).env = s.env ∧ (actOnProducer reg s).mem =
    s.mem ∧ (actOnProducer reg s).mp = s.mp ∧ (actOnProducer reg s).ks = s.ks ∧ (actOnProducer reg s).sp = s.sp ∧
    (actOnProducer reg s).hm = s.hm ∧ (actOnProducer reg s).sm = s.sm ∧ (actOnProducer reg s).pd = s.pd ∧
    (actOnProducer reg s).cbm.geometry = s.cbm.geometry ∧ (actOnProducer reg s).cbm.settings = s.cbm.settings ∧
    (actOnProducer reg s).cbm.standby = s.cbm.standby ∧ (actOnProducer reg s).cbm.slotBusy = s.cbm.slotBusy := by
  refine ⟨?_, ?_, ?_, ?_, ?_, ?_, ?_, ?_, ?_, ?_, ?_, ?_, ?_⟩ <;> (unfold actOnProducer; (repeat' first | split | dsimp only) <;> simp)

@[simp] theorem takeProducer_frame (reg : ProducerIndex) (v : Byte) (s : State) :
    (takeProducer reg v s).pending = s.pending ∧ (takeProducer reg v s).env = s.env ∧ (takeProducer reg v s).mem =
    s.mem ∧ (takeProducer reg v s).mp = s.mp ∧ (takeProducer reg v s).ks = s.ks ∧ (takeProducer reg v s).sp = s.sp ∧
    (takeProducer reg v s).hm = s.hm ∧ (takeProducer reg v s).sm = s.sm ∧ (takeProducer reg v s).pd = s.pd ∧
    (takeProducer reg v s).cbm.geometry = s.cbm.geometry ∧ (takeProducer reg v s).cbm.settings = s.cbm.settings ∧
    (takeProducer reg v s).cbm.standby = s.cbm.standby ∧ (takeProducer reg v s).cbm.slotBusy = s.cbm.slotBusy := by
  refine ⟨?_, ?_, ?_, ?_, ?_, ?_, ?_, ?_, ?_, ?_, ?_, ?_, ?_⟩ <;> (unfold takeProducer; (repeat' first | split | dsimp only) <;> simp)

@[simp] theorem setConsumer_frame (reg : ConsumerIndex) (n : Nat) (s : State) :
    (setConsumer reg n s).pending = s.pending ∧ (setConsumer reg n s).env = s.env ∧ (setConsumer reg n s).mem =
    s.mem ∧ (setConsumer reg n s).mp = s.mp ∧ (setConsumer reg n s).lu = s.lu ∧ (setConsumer reg n s).su = s.su ∧
    (setConsumer reg n s).ks = s.ks ∧ (setConsumer reg n s).ps = s.ps ∧ (setConsumer reg n s).sp = s.sp ∧
    (setConsumer reg n s).hm = s.hm ∧ (setConsumer reg n s).sm = s.sm ∧ (setConsumer reg n s).pd = s.pd ∧
    (setConsumer reg n s).cbm.geometry = s.cbm.geometry ∧ (setConsumer reg n s).cbm.settings = s.cbm.settings ∧
    (setConsumer reg n s).cbm.standby = s.cbm.standby ∧ (setConsumer reg n s).cbm.slotBusy = s.cbm.slotBusy := by
  refine ⟨?_, ?_, ?_, ?_, ?_, ?_, ?_, ?_, ?_, ?_, ?_, ?_, ?_, ?_, ?_, ?_⟩ <;> (unfold setConsumer; (repeat' first | split | dsimp only) <;> simp)

@[simp] theorem actOnConsumer_frame (reg : ConsumerIndex) (s : State) :
    (actOnConsumer reg s).pending = s.pending ∧ (actOnConsumer reg s).env = s.env ∧ (actOnConsumer reg s).mem =
    s.mem ∧ (actOnConsumer reg s).mp = s.mp ∧ (actOnConsumer reg s).ps = s.ps ∧ (actOnConsumer reg s).sp = s.sp ∧
    (actOnConsumer reg s).hm = s.hm ∧ (actOnConsumer reg s).sm = s.sm ∧ (actOnConsumer reg s).pd = s.pd ∧
    (actOnConsumer reg s).cbm.geometry = s.cbm.geometry ∧ (actOnConsumer reg s).cbm.settings = s.cbm.settings ∧
    (actOnConsumer reg s).cbm.standby = s.cbm.standby ∧ (actOnConsumer reg s).cbm.slotBusy = s.cbm.slotBusy := by
  refine ⟨?_, ?_, ?_, ?_, ?_, ?_, ?_, ?_, ?_, ?_, ?_, ?_, ?_⟩ <;> (unfold actOnConsumer; (repeat' first | split | dsimp only) <;> simp)

@[simp] theorem takeConsumer_frame (reg : ConsumerIndex) (v : Byte) (s : State) :
    (takeConsumer reg v s).pending = s.pending ∧ (takeConsumer reg v s).env = s.env ∧ (takeConsumer reg v s).mem =
    s.mem ∧ (takeConsumer reg v s).mp = s.mp ∧ (takeConsumer reg v s).ps = s.ps ∧ (takeConsumer reg v s).sp = s.sp ∧
    (takeConsumer reg v s).hm = s.hm ∧ (takeConsumer reg v s).sm = s.sm ∧ (takeConsumer reg v s).pd = s.pd ∧
    (takeConsumer reg v s).cbm.geometry = s.cbm.geometry ∧ (takeConsumer reg v s).cbm.settings = s.cbm.settings ∧
    (takeConsumer reg v s).cbm.standby = s.cbm.standby ∧ (takeConsumer reg v s).cbm.slotBusy = s.cbm.slotBusy := by
  refine ⟨?_, ?_, ?_, ?_, ?_, ?_, ?_, ?_, ?_, ?_, ?_, ?_, ?_⟩ <;> (unfold takeConsumer; (repeat' first | split | dsimp only) <;> simp)

@[simp] theorem snoopSetup_frame (offset : Nat) (v : Byte) (s : State) :
    (snoopSetup offset v s).pending = s.pending ∧ (snoopSetup offset v s).env = s.env ∧ (snoopSetup offset v s).mem
    = s.mem ∧ (snoopSetup offset v s).mp = s.mp ∧ (snoopSetup offset v s).ks = s.ks ∧ (snoopSetup offset v s).ps =
    s.ps ∧ (snoopSetup offset v s).sp = s.sp ∧ (snoopSetup offset v s).hm = s.hm ∧ (snoopSetup offset v s).sm = s.sm
    ∧ (snoopSetup offset v s).pd = s.pd ∧ (snoopSetup offset v s).cbm.geometry = s.cbm.geometry ∧ (snoopSetup offset
    v s).cbm.standby = s.cbm.standby ∧ (snoopSetup offset v s).cbm.slotBusy = s.cbm.slotBusy := by
  refine ⟨?_, ?_, ?_, ?_, ?_, ?_, ?_, ?_, ?_, ?_, ?_, ?_, ?_⟩ <;> (unfold snoopSetup; (repeat' first | split | dsimp only) <;> simp)

@[simp] theorem snoop_frame (offset : Nat) (v : Byte) (s : State) :
    (snoop offset v s).pending = s.pending ∧ (snoop offset v s).mem = s.mem ∧ (snoop offset v s).env.now = s.env.now
    ∧ (snoop offset v s).env.tonePhase = s.env.tonePhase ∧ (snoop offset v s).hm.estimates = s.hm.estimates ∧ (snoop
    offset v s).pd.position = s.pd.position ∧ (snoop offset v s).mp.hostWaiting = s.mp.hostWaiting ∧ (snoop offset v
    s).mp.resetHeld = s.mp.resetHeld ∧ (snoop offset v s).mp.straps = s.mp.straps := by
  refine ⟨?_, ?_, ?_, ?_, ?_, ?_, ?_, ?_, ?_⟩ <;> (unfold snoop; (repeat' first | split | dsimp only) <;> simp)

@[simp] theorem ownedDrop_frame (s : State) :
    (ownedDrop s).pending = s.pending ∧ (ownedDrop s).env = s.env ∧ (ownedDrop s).mem = s.mem ∧ (ownedDrop s).mp =
    s.mp ∧ (ownedDrop s).lu = s.lu ∧ (ownedDrop s).su = s.su ∧ (ownedDrop s).ks = s.ks ∧ (ownedDrop s).ps = s.ps ∧
    (ownedDrop s).sp = s.sp ∧ (ownedDrop s).hm = s.hm ∧ (ownedDrop s).sm = s.sm ∧ (ownedDrop s).pd = s.pd ∧
    (ownedDrop s).cbm.geometry = s.cbm.geometry ∧ (ownedDrop s).cbm.settings = s.cbm.settings ∧ (ownedDrop
    s).cbm.standby = s.cbm.standby ∧ (ownedDrop s).cbm.slotBusy = s.cbm.slotBusy := by
  refine ⟨?_, ?_, ?_, ?_, ?_, ?_, ?_, ?_, ?_, ?_, ?_, ?_, ?_, ?_, ?_, ?_⟩ <;> (unfold ownedDrop; (repeat' first | split | dsimp only) <;> simp)

@[simp] theorem guardedDrop_frame (a : Addr) (s : State) :
    (guardedDrop a s).pending = s.pending ∧ (guardedDrop a s).env = s.env ∧ (guardedDrop a s).mem = s.mem ∧
    (guardedDrop a s).lu = s.lu ∧ (guardedDrop a s).su = s.su ∧ (guardedDrop a s).ks = s.ks ∧ (guardedDrop a s).ps =
    s.ps ∧ (guardedDrop a s).sp = s.sp ∧ (guardedDrop a s).hm = s.hm ∧ (guardedDrop a s).sm = s.sm ∧ (guardedDrop a
    s).pd = s.pd ∧ (guardedDrop a s).cbm.geometry = s.cbm.geometry ∧ (guardedDrop a s).cbm.settings = s.cbm.settings
    ∧ (guardedDrop a s).cbm.standby = s.cbm.standby ∧ (guardedDrop a s).cbm.slotBusy = s.cbm.slotBusy ∧ (guardedDrop
    a s).mp.windows = s.mp.windows ∧ (guardedDrop a s).mp.hostWaiting = s.mp.hostWaiting ∧ (guardedDrop a
    s).mp.resetHeld = s.mp.resetHeld ∧ (guardedDrop a s).mp.straps = s.mp.straps := by
  refine ⟨?_, ?_, ?_, ?_, ?_, ?_, ?_, ?_, ?_, ?_, ?_, ?_, ?_, ?_, ?_, ?_, ?_, ?_, ?_⟩ <;> (unfold guardedDrop; (repeat' first | split | dsimp only) <;> simp)

@[simp] theorem deliverWrite_frame (a : Addr) (v : Byte) (s : State) :
    (deliverWrite a v s).pending = s.pending ∧ (deliverWrite a v s).env.now = s.env.now ∧ (deliverWrite a v
    s).env.tonePhase = s.env.tonePhase ∧ (deliverWrite a v s).hm.estimates = s.hm.estimates ∧ (deliverWrite a v
    s).pd.position = s.pd.position ∧ (deliverWrite a v s).mp.hostWaiting = s.mp.hostWaiting ∧ (deliverWrite a v
    s).mp.resetHeld = s.mp.resetHeld ∧ (deliverWrite a v s).mp.straps = s.mp.straps := by
  refine ⟨?_, ?_, ?_, ?_, ?_, ?_, ?_, ?_⟩ <;> (unfold deliverWrite; (repeat' first | split | dsimp only) <;> simp)

@[simp] theorem hostGrant_frame (x : HostAccess) (s : State) :
    (hostGrant x s).pending = s.pending ∧ (hostGrant x s).env.now = s.env.now ∧ (hostGrant x s).env.tonePhase =
    s.env.tonePhase ∧ (hostGrant x s).hm.estimates = s.hm.estimates ∧ (hostGrant x s).pd.position = s.pd.position ∧
    (hostGrant x s).mp.resetHeld = s.mp.resetHeld ∧ (hostGrant x s).mp.straps = s.mp.straps := by
  refine ⟨?_, ?_, ?_, ?_, ?_, ?_, ?_⟩ <;> (unfold hostGrant; (repeat' first | split | dsimp only) <;> simp)

@[simp] theorem landAnswer_frame (w : OwedWrite) (rest : List OwedWrite) (s : State) :
    (landAnswer w rest s).pending = s.pending ∧ (landAnswer w rest s).env = s.env ∧ (landAnswer w rest s).mp = s.mp
    ∧ (landAnswer w rest s).lu = s.lu ∧ (landAnswer w rest s).su = s.su ∧ (landAnswer w rest s).ks = s.ks ∧
    (landAnswer w rest s).ps = s.ps ∧ (landAnswer w rest s).sp = s.sp ∧ (landAnswer w rest s).hm = s.hm ∧
    (landAnswer w rest s).sm = s.sm ∧ (landAnswer w rest s).pd = s.pd ∧ (landAnswer w rest s).cbm.geometry =
    s.cbm.geometry ∧ (landAnswer w rest s).cbm.settings = s.cbm.settings ∧ (landAnswer w rest s).cbm.standby =
    s.cbm.standby := by
  refine ⟨?_, ?_, ?_, ?_, ?_, ?_, ?_, ?_, ?_, ?_, ?_, ?_, ?_, ?_⟩ <;> (unfold landAnswer; (repeat' first | split | dsimp only) <;> simp)

@[simp] theorem landStatus_frame (offset : Nat) (s : State) :
    (landStatus offset s).pending = s.pending ∧ (landStatus offset s).env = s.env ∧ (landStatus offset s).mp = s.mp
    ∧ (landStatus offset s).lu = s.lu ∧ (landStatus offset s).su = s.su ∧ (landStatus offset s).ks = s.ks ∧
    (landStatus offset s).ps = s.ps ∧ (landStatus offset s).sp = s.sp ∧ (landStatus offset s).hm = s.hm ∧
    (landStatus offset s).sm = s.sm ∧ (landStatus offset s).pd = s.pd ∧ (landStatus offset s).cbm.geometry =
    s.cbm.geometry ∧ (landStatus offset s).cbm.settings = s.cbm.settings ∧ (landStatus offset s).cbm.standby =
    s.cbm.standby ∧ (landStatus offset s).cbm.slotBusy = s.cbm.slotBusy := by
  refine ⟨?_, ?_, ?_, ?_, ?_, ?_, ?_, ?_, ?_, ?_, ?_, ?_, ?_, ?_, ?_⟩ <;> (unfold landStatus; (repeat' first | split | dsimp only) <;> simp)

@[simp] theorem grantCbm_frame (s : State) :
    (grantCbm s).pending = s.pending ∧ (grantCbm s).env = s.env ∧ (grantCbm s).mp = s.mp ∧ (grantCbm s).lu = s.lu ∧
    (grantCbm s).su = s.su ∧ (grantCbm s).ks = s.ks ∧ (grantCbm s).ps = s.ps ∧ (grantCbm s).sp = s.sp ∧ (grantCbm
    s).hm = s.hm ∧ (grantCbm s).sm = s.sm ∧ (grantCbm s).pd = s.pd ∧ (grantCbm s).cbm.geometry = s.cbm.geometry ∧
    (grantCbm s).cbm.settings = s.cbm.settings ∧ (grantCbm s).cbm.standby = s.cbm.standby := by
  refine ⟨?_, ?_, ?_, ?_, ?_, ?_, ?_, ?_, ?_, ?_, ?_, ?_, ?_, ?_⟩ <;> (unfold grantCbm; (repeat' first | split | dsimp only) <;> simp)

@[simp] theorem landResult_frame (c : Completion) (s : State) :
    (landResult c s).pending = s.pending ∧ (landResult c s).env = s.env ∧ (landResult c s).mp = s.mp ∧ (landResult c
    s).cbm = s.cbm ∧ (landResult c s).lu = s.lu ∧ (landResult c s).su = s.su ∧ (landResult c s).ks = s.ks ∧
    (landResult c s).sp = s.sp ∧ (landResult c s).hm = s.hm ∧ (landResult c s).sm = s.sm ∧ (landResult c s).pd =
    s.pd := by
  refine ⟨?_, ?_, ?_, ?_, ?_, ?_, ?_, ?_, ?_, ?_, ?_⟩ <;> (unfold landResult; (repeat' first | split | dsimp only) <;> simp)

@[simp] theorem landPqCons_frame (c : Completion) (rest : List Completion) (s : State) :
    (landPqCons c rest s).pending = s.pending ∧ (landPqCons c rest s).env = s.env ∧ (landPqCons c rest s).mp = s.mp
    ∧ (landPqCons c rest s).cbm = s.cbm ∧ (landPqCons c rest s).lu = s.lu ∧ (landPqCons c rest s).su = s.su ∧
    (landPqCons c rest s).ks = s.ks ∧ (landPqCons c rest s).sp = s.sp ∧ (landPqCons c rest s).hm = s.hm ∧
    (landPqCons c rest s).sm = s.sm ∧ (landPqCons c rest s).pd = s.pd := by
  refine ⟨?_, ?_, ?_, ?_, ?_, ?_, ?_, ?_, ?_, ?_, ?_⟩ <;> (unfold landPqCons; (repeat' first | split | dsimp only) <;> simp)

@[simp] theorem landDescriptorByte_frame (v : Byte) (s : State) :
    (landDescriptorByte v s).pending = s.pending ∧ (landDescriptorByte v s).mem = s.mem ∧ (landDescriptorByte v
    s).mp = s.mp ∧ (landDescriptorByte v s).su = s.su ∧ (landDescriptorByte v s).ks = s.ks ∧ (landDescriptorByte v
    s).env.now = s.env.now ∧ (landDescriptorByte v s).env.tonePhase = s.env.tonePhase ∧ (landDescriptorByte v
    s).cbm.geometry = s.cbm.geometry ∧ (landDescriptorByte v s).cbm.settings = s.cbm.settings ∧ (landDescriptorByte
    v s).cbm.standby = s.cbm.standby ∧ (landDescriptorByte v s).cbm.slotBusy = s.cbm.slotBusy ∧ (landDescriptorByte
    v s).hm.estimates = s.hm.estimates ∧ (landDescriptorByte v s).pd.position = s.pd.position := by
  refine ⟨?_, ?_, ?_, ?_, ?_, ?_, ?_, ?_, ?_, ?_, ?_, ?_, ?_⟩ <;> (unfold landDescriptorByte; (repeat' first | split | dsimp only) <;> simp)

@[simp] theorem landImageByte_frame (v : Byte) (s : State) :
    (landImageByte v s).pending = s.pending ∧ (landImageByte v s).mem = s.mem ∧ (landImageByte v s).mp = s.mp ∧
    (landImageByte v s).su = s.su ∧ (landImageByte v s).ks = s.ks ∧ (landImageByte v s).env.now = s.env.now ∧
    (landImageByte v s).env.tonePhase = s.env.tonePhase ∧ (landImageByte v s).cbm.geometry = s.cbm.geometry ∧
    (landImageByte v s).cbm.settings = s.cbm.settings ∧ (landImageByte v s).cbm.standby = s.cbm.standby ∧
    (landImageByte v s).cbm.slotBusy = s.cbm.slotBusy ∧ (landImageByte v s).hm.estimates = s.hm.estimates ∧
    (landImageByte v s).pd.position = s.pd.position := by
  refine ⟨?_, ?_, ?_, ?_, ?_, ?_, ?_, ?_, ?_, ?_, ?_, ?_, ?_⟩ <;> (unfold landImageByte; (repeat' first | split | dsimp only) <;> simp)

@[simp] theorem freePs_frame (s : State) :
    (freePs s).pending = s.pending ∧ (freePs s).env = s.env ∧ (freePs s).mem = s.mem ∧ (freePs s).mp = s.mp ∧
    (freePs s).cbm = s.cbm ∧ (freePs s).lu = s.lu ∧ (freePs s).su = s.su ∧ (freePs s).ks = s.ks ∧ (freePs s).sp =
    s.sp ∧ (freePs s).hm = s.hm ∧ (freePs s).sm = s.sm ∧ (freePs s).pd = s.pd := by
  refine ⟨?_, ?_, ?_, ?_, ?_, ?_, ?_, ?_, ?_, ?_, ?_, ?_⟩ <;> (unfold freePs; (repeat' first | split | dsimp only) <;> simp)

@[simp] theorem grantResult_frame (s : State) :
    (grantResult s).pending = s.pending ∧ (grantResult s).env = s.env ∧ (grantResult s).mp = s.mp ∧ (grantResult
    s).cbm = s.cbm ∧ (grantResult s).lu = s.lu ∧ (grantResult s).su = s.su ∧ (grantResult s).ks = s.ks ∧
    (grantResult s).sp = s.sp ∧ (grantResult s).hm = s.hm ∧ (grantResult s).sm = s.sm ∧ (grantResult s).pd = s.pd := by
  refine ⟨?_, ?_, ?_, ?_, ?_, ?_, ?_, ?_, ?_, ?_, ?_⟩ <;> (unfold grantResult; (repeat' first | split | dsimp only) <;> simp)

@[simp] theorem grantPqCons_frame (s : State) :
    (grantPqCons s).pending = s.pending ∧ (grantPqCons s).env = s.env ∧ (grantPqCons s).mp = s.mp ∧ (grantPqCons
    s).cbm = s.cbm ∧ (grantPqCons s).lu = s.lu ∧ (grantPqCons s).su = s.su ∧ (grantPqCons s).ks = s.ks ∧
    (grantPqCons s).sp = s.sp ∧ (grantPqCons s).hm = s.hm ∧ (grantPqCons s).sm = s.sm ∧ (grantPqCons s).pd = s.pd := by
  refine ⟨?_, ?_, ?_, ?_, ?_, ?_, ?_, ?_, ?_, ?_, ?_⟩ <;> (unfold grantPqCons; (repeat' first | split | dsimp only) <;> simp)

@[simp] theorem grantPs_frame (s : State) :
    (grantPs s).pending = s.pending ∧ (grantPs s).mp = s.mp ∧ (grantPs s).su = s.su ∧ (grantPs s).ks = s.ks ∧
    (grantPs s).env.now = s.env.now ∧ (grantPs s).env.tonePhase = s.env.tonePhase ∧ (grantPs s).cbm.geometry =
    s.cbm.geometry ∧ (grantPs s).cbm.settings = s.cbm.settings ∧ (grantPs s).cbm.standby = s.cbm.standby ∧ (grantPs
    s).cbm.slotBusy = s.cbm.slotBusy ∧ (grantPs s).hm.estimates = s.hm.estimates ∧ (grantPs s).pd.position =
    s.pd.position := by
  refine ⟨?_, ?_, ?_, ?_, ?_, ?_, ?_, ?_, ?_, ?_, ?_, ?_⟩ <;> (unfold grantPs; (repeat' first | split | dsimp only) <;> simp)

@[simp] theorem grantEffect_frame (r : Requester) (s : State) :
    (grantEffect r s).pending = s.pending ∧ (grantEffect r s).mp = s.mp ∧ (grantEffect r s).env.now = s.env.now ∧
    (grantEffect r s).env.tonePhase = s.env.tonePhase ∧ (grantEffect r s).cbm.geometry = s.cbm.geometry ∧
    (grantEffect r s).cbm.settings = s.cbm.settings ∧ (grantEffect r s).cbm.standby = s.cbm.standby ∧ (grantEffect r
    s).hm.estimates = s.hm.estimates ∧ (grantEffect r s).pd.position = s.pd.position := by
  refine ⟨?_, ?_, ?_, ?_, ?_, ?_, ?_, ?_, ?_⟩ <;> (unfold grantEffect; (repeat' first | split | dsimp only) <;> simp)

@[simp] theorem grantTo_frame (r : Requester) (s : State) :
    (grantTo r s).pending = s.pending ∧ (grantTo r s).env.now = s.env.now ∧ (grantTo r s).env.tonePhase =
    s.env.tonePhase ∧ (grantTo r s).cbm.geometry = s.cbm.geometry ∧ (grantTo r s).cbm.settings = s.cbm.settings ∧
    (grantTo r s).cbm.standby = s.cbm.standby ∧ (grantTo r s).hm.estimates = s.hm.estimates ∧ (grantTo r
    s).pd.position = s.pd.position ∧ (grantTo r s).mp.windows = s.mp.windows ∧ (grantTo r s).mp.hostWaiting =
    s.mp.hostWaiting ∧ (grantTo r s).mp.resetHeld = s.mp.resetHeld ∧ (grantTo r s).mp.straps = s.mp.straps := by
  refine ⟨?_, ?_, ?_, ?_, ?_, ?_, ?_, ?_, ?_, ?_, ?_, ?_⟩ <;> (unfold grantTo; (repeat' first | split | dsimp only) <;> simp)

@[simp] theorem grantInternal_frame (s : State) :
    (grantInternal s).pending = s.pending ∧ (grantInternal s).env.now = s.env.now ∧ (grantInternal s).env.tonePhase
    = s.env.tonePhase ∧ (grantInternal s).cbm.geometry = s.cbm.geometry ∧ (grantInternal s).cbm.settings =
    s.cbm.settings ∧ (grantInternal s).cbm.standby = s.cbm.standby ∧ (grantInternal s).hm.estimates = s.hm.estimates
    ∧ (grantInternal s).pd.position = s.pd.position ∧ (grantInternal s).mp.windows = s.mp.windows ∧ (grantInternal
    s).mp.hostWaiting = s.mp.hostWaiting ∧ (grantInternal s).mp.resetHeld = s.mp.resetHeld ∧ (grantInternal
    s).mp.straps = s.mp.straps := by
  refine ⟨?_, ?_, ?_, ?_, ?_, ?_, ?_, ?_, ?_, ?_, ?_, ?_⟩ <;> (unfold grantInternal; (repeat' first | split | dsimp only) <;> simp)

@[simp] theorem hostWait_frame (x : HostAccess) (s : State) :
    (hostWait x s).pending = s.pending ∧ (hostWait x s).env = s.env ∧ (hostWait x s).mem = s.mem ∧ (hostWait x
    s).cbm = s.cbm ∧ (hostWait x s).lu = s.lu ∧ (hostWait x s).su = s.su ∧ (hostWait x s).ks = s.ks ∧ (hostWait x
    s).ps = s.ps ∧ (hostWait x s).sp = s.sp ∧ (hostWait x s).hm = s.hm ∧ (hostWait x s).sm = s.sm ∧ (hostWait x
    s).pd = s.pd ∧ (hostWait x s).mp.windows = s.mp.windows ∧ (hostWait x s).mp.resetHeld = s.mp.resetHeld ∧
    (hostWait x s).mp.straps = s.mp.straps := by
  refine ⟨?_, ?_, ?_, ?_, ?_, ?_, ?_, ?_, ?_, ?_, ?_, ?_, ?_, ?_, ?_⟩ <;> (unfold hostWait; (repeat' first | split | dsimp only) <;> simp)

@[simp] theorem serveWaiting_frame (x : HostAccess) (s : State) :
    (serveWaiting x s).pending = s.pending ∧ (serveWaiting x s).env.now = s.env.now ∧ (serveWaiting x
    s).env.tonePhase = s.env.tonePhase ∧ (serveWaiting x s).hm.estimates = s.hm.estimates ∧ (serveWaiting x
    s).pd.position = s.pd.position ∧ (serveWaiting x s).mp.resetHeld = s.mp.resetHeld ∧ (serveWaiting x s).mp.straps
    = s.mp.straps := by
  refine ⟨?_, ?_, ?_, ?_, ?_, ?_, ?_⟩ <;> (unfold serveWaiting; (repeat' first | split | dsimp only) <;> simp)

@[simp] theorem hostServe_frame (x : HostAccess) (s : State) :
    (hostServe x s).pending = s.pending ∧ (hostServe x s).env.now = s.env.now ∧ (hostServe x s).env.tonePhase =
    s.env.tonePhase ∧ (hostServe x s).hm.estimates = s.hm.estimates ∧ (hostServe x s).pd.position = s.pd.position ∧
    (hostServe x s).mp.resetHeld = s.mp.resetHeld ∧ (hostServe x s).mp.straps = s.mp.straps := by
  refine ⟨?_, ?_, ?_, ?_, ?_, ?_, ?_⟩ <;> (unfold hostServe; (repeat' first | split | dsimp only) <;> simp)

@[simp] theorem afterPowerOnReset_frame (straps : BitVec 2) (s : State) :
    (afterPowerOnReset straps s).pending = s.pending ∧ (afterPowerOnReset straps s).env = s.env ∧ (afterPowerOnReset
    straps s).mem = s.mem := by
  refine ⟨?_, ?_, ?_⟩ <;> rfl

@[simp] theorem afterResetLine_frame (s : State) :
    (afterResetLine s).pending = s.pending ∧ (afterResetLine s).env = s.env ∧ (afterResetLine s).mem = s.mem ∧
    (afterResetLine s).hm.estimates = s.hm.estimates := by
  refine ⟨?_, ?_, ?_, ?_⟩ <;> rfl

@[simp] theorem serveAll_frame (l : List HostAccess) (s : State) :
    (serveAll l s).pending = s.pending ∧ (serveAll l s).env.now = s.env.now ∧ (serveAll l s).env.tonePhase =
    s.env.tonePhase ∧ (serveAll l s).hm.estimates = s.hm.estimates ∧ (serveAll l s).pd.position = s.pd.position ∧
    (serveAll l s).mp.resetHeld = s.mp.resetHeld ∧ (serveAll l s).mp.straps = s.mp.straps := by
  induction l generalizing s with
  | nil => simp [serveAll]
  | cons c rest ih => simp [serveAll, ih]

@[simp] theorem releaseLine_frame (straps : BitVec 2) (s : State) :
    (releaseLine straps s).pending = s.pending ∧ (releaseLine straps s).env = s.env ∧ (releaseLine straps s).mem =
    s.mem ∧ (releaseLine straps s).cbm = s.cbm ∧ (releaseLine straps s).lu = s.lu ∧ (releaseLine straps s).su = s.su
    ∧ (releaseLine straps s).ps = s.ps ∧ (releaseLine straps s).sp = s.sp ∧ (releaseLine straps s).hm = s.hm ∧
    (releaseLine straps s).sm = s.sm ∧ (releaseLine straps s).pd = s.pd ∧ (releaseLine straps s).mp.windows =
    s.mp.windows ∧ (releaseLine straps s).mp.hostWaiting = s.mp.hostWaiting := by
  refine ⟨?_, ?_, ?_, ?_, ?_, ?_, ?_, ?_, ?_, ?_, ?_, ?_, ?_⟩ <;> (unfold releaseLine; (repeat' first | split | dsimp only) <;> simp)

@[simp] theorem State.withFetchWord_frame (s : State) (nbits w : Nat) :
    (State.withFetchWord s nbits w).env = s.env ∧ (State.withFetchWord s nbits w).mem = s.mem ∧ (State.withFetchWord
    s nbits w).mp = s.mp ∧ (State.withFetchWord s nbits w).cbm = s.cbm ∧ (State.withFetchWord s nbits w).lu = s.lu ∧
    (State.withFetchWord s nbits w).su = s.su ∧ (State.withFetchWord s nbits w).ks = s.ks ∧ (State.withFetchWord s
    nbits w).ps = s.ps ∧ (State.withFetchWord s nbits w).sp = s.sp ∧ (State.withFetchWord s nbits w).hm = s.hm ∧
    (State.withFetchWord s nbits w).sm = s.sm ∧ (State.withFetchWord s nbits w).pd = s.pd := by
  refine ⟨?_, ?_, ?_, ?_, ?_, ?_, ?_, ?_, ?_, ?_, ?_, ?_⟩ <;> (unfold State.withFetchWord; (repeat' first | split | dsimp only) <;> simp)

end Sys2Proof.Machine
end

