-- ==== Sys2Proof/Laws/KeepsMemory.lean ====
section
/-! SUPPORT. RAM: a read after a write, and every operation keeps the canonical form. -/

set_option linter.unusedTactic false
set_option linter.unreachableTactic false
set_option linter.unnecessarySeqFocus false
set_option linter.unusedSimpArgs false

namespace Sys2Proof.Machine

open Sys2Proof

/-- A saturating count stays within its end. -/
theorem satSucc_le {t n : Nat} (h : n ≤ t) : satSucc t n ≤ t := by unfold satSucc; split <;> omega
@[simp] theorem satSucc_15 {n : Nat} (h : n ≤ 15) : satSucc 15 n ≤ 15 := satSucc_le h
@[simp] theorem satSucc_255 {n : Nat} (h : n ≤ 255) : satSucc 255 n ≤ 255 := satSucc_le h
@[simp] theorem satSucc_65535 {n : Nat} (h : n ≤ 65535) : satSucc 65535 n ≤ 65535 := satSucc_le h

theorem memory_cell_wf {lo : Option Nat} {a : Nat} {v : Byte} {rest : Memory}
    (hl : ∀ l, lo = some l → l < a) (ha : a < 0x8000) (hr : Memory.wfFrom (some a) rest = true)
    (hr' : Memory.wfFrom lo rest = true) : Memory.wfFrom lo (Memory.cell a v rest) = true := by
  unfold Memory.cell
  split
  · exact hr'
  · cases lo <;> simp_all [Memory.wfFrom]

theorem memory_wf_weaken {lo : Option Nat} {k : Nat} {m : Memory} (h : Memory.wfFrom (some k) m = true)
    (hl : ∀ l, lo = some l → l < k) : Memory.wfFrom lo m = true := by
  cases m with
  | nil => simp [Memory.wfFrom]
  | cons c rest =>
    cases lo with
    | none => simp_all [Memory.wfFrom]
    | some l => have := hl l rfl; simp_all [Memory.wfFrom]; omega

/-- A write keeps the canonical form. -/
theorem memory_write_wfFrom {lo : Option Nat} {m : Memory} {a : Nat} {v : Byte} (h : Memory.wfFrom lo m = true)
    (hl : ∀ l, lo = some l → l < a) (ha : a < 0x8000) : Memory.wfFrom lo (Memory.write m a v) = true := by
  induction m generalizing lo with
  | nil => exact memory_cell_wf hl ha rfl rfl
  | cons c rest ih =>
    obtain ⟨k, w⟩ := c
    have hk : Memory.wfFrom (some k) rest = true := by cases lo <;> simp_all [Memory.wfFrom]
    have hlk : ∀ l, lo = some l → l < k := by intro l hl; subst hl; simp_all [Memory.wfFrom]
    unfold Memory.write
    split
    · rename_i e; subst e
      exact memory_cell_wf hl ha hk (memory_wf_weaken hk hlk)
    · split
      · refine memory_cell_wf hl ha ?_ h
        cases lo <;> simp_all [Memory.wfFrom]
      · have hi := ih hk (by intro l hl; cases hl; omega)
        cases lo <;> simp_all [Memory.wfFrom]

@[simp] theorem memory_write_wf {m : Memory} (a : Addr) (v : Byte) (h : m.wf = true) : (m.write a.toNat v).wf = true :=
  memory_write_wfFrom h (by simp) a.isLt

theorem memory_read_below {lo : Nat} {m : Memory} {a : Nat} (h : Memory.wfFrom (some lo) m = true) (ha : a ≤ lo) :
    Memory.read m a = unlistedByte := by
  cases m with
  | nil => rfl
  | cons c rest => obtain ⟨k, w⟩ := c; simp_all [Memory.wfFrom, Memory.read]; rw [if_neg (by omega), if_pos (by omega)]

theorem memory_read_cell {lo : Option Nat} {a b : Nat} {v : Byte} {rest : Memory}
    (h : Memory.wfFrom (some a) rest = true) :
    Memory.read (Memory.cell a v rest) b = if b = a then v else Memory.read rest b := by
  unfold Memory.cell
  split
  · rename_i e; subst e
    split
    · rename_i e; subst e; exact memory_read_below h (le_refl _)
    · rfl
  · simp only [Memory.read]
    split
    · rename_i e; simp [e]
    · split
      · rename_i h1 h2; rw [if_neg (by omega)]; exact (memory_read_below h (by omega)).symm
      · rename_i h1 h2; rw [if_neg (by omega)]

/-- A byte read after a write: the byte written at its address, the byte held before at every other. -/
theorem memory_read_write {m : Memory} {lo : Option Nat} (h : Memory.wfFrom lo m = true) (a b : Nat) (v : Byte) :
    Memory.read (Memory.write m a v) b = if b = a then v else Memory.read m b := by
  induction m generalizing lo with
  | nil => exact memory_read_cell (lo := none) rfl
  | cons c rest ih =>
    obtain ⟨k, w⟩ := c
    have hk : Memory.wfFrom (some k) rest = true := by cases lo <;> simp_all [Memory.wfFrom]
    unfold Memory.write
    split
    · rename_i e; subst e
      rw [memory_read_cell (lo := none) hk]
      simp only [Memory.read]
      by_cases e : b = k <;> simp [e]
      split
      · omega
      · split
        · exact memory_read_below hk (by omega)
        · rfl
    · split
      · rename_i h1 h2
        rw [memory_read_cell (lo := none)]
        cases lo <;> simp_all [Memory.wfFrom]
      · rename_i h1 h2
        simp only [Memory.read, ih hk]
        by_cases e : b = a
        · subst e; simp [h1, h2]
        · simp [e]

/-- A byte of RAM after a write that lands. -/
theorem byteAt_writeByte {s : State} (h : MemoryCanonical s) (a b : Addr) (v : Byte) :
    (writeByte a v s).byteAt b = if b = a then v else s.byteAt b := by
  simp only [State.byteAt, writeByte, withMem_mem, memory_read_write (lo := none) h]
  by_cases e : b = a
  · simp [e]
  · simp [e, BitVec.toNat_inj]

@[simp] theorem writeByte_mem (a : Addr) (v : Byte) {s : State} (h : s.mem.wf = true) : (writeByte a v s).mem.wf = true := by
  simp [writeByte, h]

@[simp] theorem landRxProd_mem {s : State} (h : s.mem.wf = true) : (landRxProd s).mem.wf = true := by
  unfold landRxProd; (repeat' first | split | dsimp only) <;> simp [h]

@[simp] theorem grantSu_mem {s : State} (h : s.mem.wf = true) : (grantSu s).mem.wf = true := by
  unfold grantSu; (repeat' first | split | dsimp only) <;> simp [h]

@[simp] theorem grantLu_mem {s : State} (h : s.mem.wf = true) : (grantLu s).mem.wf = true := by
  unfold grantLu; (repeat' first | split | dsimp only) <;> simp [h]

@[simp] theorem landKeyByte_mem (i : Nat) {s : State} (h : s.mem.wf = true) : (landKeyByte i s).mem.wf = true := by
  unfold landKeyByte; (repeat' first | split | dsimp only) <;> simp [h]

@[simp] theorem landKeyProd_mem {s : State} (h : s.mem.wf = true) : (landKeyProd s).mem.wf = true := by
  unfold landKeyProd; (repeat' first | split | dsimp only) <;> simp [h]

@[simp] theorem grantKs_mem {s : State} (h : s.mem.wf = true) : (grantKs s).mem.wf = true := by
  unfold grantKs; (repeat' first | split | dsimp only) <;> simp [h]

@[simp] theorem deliverWrite_mem (a : Addr) (v : Byte) {s : State} (h : s.mem.wf = true) :
    (deliverWrite a v s).mem.wf = true := by
  unfold deliverWrite; (repeat' first | split | dsimp only) <;> simp [h]

@[simp] theorem hostGrant_mem (x : HostAccess) {s : State} (h : s.mem.wf = true) : (hostGrant x s).mem.wf = true := by
  unfold hostGrant; (repeat' first | split | dsimp only) <;> simp [h]

@[simp] theorem landAnswer_mem (w : OwedWrite) (rest : List OwedWrite) {s : State} (h : s.mem.wf = true) :
    (landAnswer w rest s).mem.wf = true := by
  unfold landAnswer; (repeat' first | split | dsimp only) <;> simp [h]

@[simp] theorem landStatus_mem (offset : Nat) {s : State} (h : s.mem.wf = true) :
    (landStatus offset s).mem.wf = true := by
  unfold landStatus; (repeat' first | split | dsimp only) <;> simp [h]

@[simp] theorem grantCbm_mem {s : State} (h : s.mem.wf = true) : (grantCbm s).mem.wf = true := by
  unfold grantCbm; (repeat' first | split | dsimp only) <;> simp [h]

@[simp] theorem landResult_mem (c : Completion) {s : State} (h : s.mem.wf = true) : (landResult c s).mem.wf = true := by
  unfold landResult; (repeat' first | split | dsimp only) <;> simp [h]

@[simp] theorem landPqCons_mem (c : Completion) (rest : List Completion) {s : State} (h : s.mem.wf = true) :
    (landPqCons c rest s).mem.wf = true := by
  unfold landPqCons; (repeat' first | split | dsimp only) <;> simp [h]

@[simp] theorem grantResult_mem {s : State} (h : s.mem.wf = true) : (grantResult s).mem.wf = true := by
  unfold grantResult; (repeat' first | split | dsimp only) <;> simp [h]

@[simp] theorem grantPqCons_mem {s : State} (h : s.mem.wf = true) : (grantPqCons s).mem.wf = true := by
  unfold grantPqCons; (repeat' first | split | dsimp only) <;> simp [h]

@[simp] theorem grantPs_mem {s : State} (h : s.mem.wf = true) : (grantPs s).mem.wf = true := by
  unfold grantPs; (repeat' first | split | dsimp only) <;> simp [h]

@[simp] theorem grantEffect_mem (r : Requester) {s : State} (h : s.mem.wf = true) :
    (grantEffect r s).mem.wf = true := by
  unfold grantEffect; (repeat' first | split | dsimp only) <;> simp [h]

@[simp] theorem grantTo_mem (r : Requester) {s : State} (h : s.mem.wf = true) : (grantTo r s).mem.wf = true := by
  unfold grantTo; (repeat' first | split | dsimp only) <;> simp [h]

@[simp] theorem grantInternal_mem {s : State} (h : s.mem.wf = true) : (grantInternal s).mem.wf = true := by
  unfold grantInternal; (repeat' first | split | dsimp only) <;> simp [h]

@[simp] theorem serveWaiting_mem (x : HostAccess) {s : State} (h : s.mem.wf = true) : (serveWaiting x s).mem.wf = true := by
  unfold serveWaiting; (repeat' first | split | dsimp only) <;> simp [h]

@[simp] theorem hostServe_mem (x : HostAccess) {s : State} (h : s.mem.wf = true) : (hostServe x s).mem.wf = true := by
  unfold hostServe; split
  · exact serveWaiting_mem x (by simpa using h)
  · exact serveWaiting_mem x h

@[simp] theorem serveAll_mem (l : List HostAccess) {s : State} (h : s.mem.wf = true) : (serveAll l s).mem.wf = true := by
  induction l generalizing s with
  | nil => exact h
  | cons x rest ih => exact ih (serveWaiting_mem x h)

end Sys2Proof.Machine
end

