-- ==== Sys2Proof/Laws/KeepsDirty.lean ====
section
/-! SUPPORT. Every operation keeps the dirty set a part of the 28 status offsets, in ascending order. -/

set_option linter.unusedTactic false
set_option linter.unreachableTactic false
set_option linter.unnecessarySeqFocus false
set_option linter.unusedSimpArgs false

namespace Sys2Proof.Machine

open Sys2Proof

@[simp] theorem dirtyBounds_mk (x0 : Bool) (x1 : List OwedWrite) (x2 : Option CbmAccess) (x3 : Args) (x4 :
    Option PendingCommand) (x5 : Bool) (x6 : Settings) (x7 : RawSettings) (x8 : Geometry) (x9 : Option Geometry)
    (x10 : Nat) (x11 : Nat) (x12 : Nat) (x13 : Nat) (x14 : Byte) (x15 : Byte) (x16 : List Nat) :
    ControlBlock.bounded ⟨x0, x1, x2, x3, x4, x5, x6, x7, x8, x9, x10, x11, x12, x13, x14, x15, x16⟩ ↔ x16.Sublist
    statusOffsets := Iff.rfl

@[simp] theorem setFlag_cbm (f : Flag) {s : State} (h : s.cbm.bounded) : (setFlag f s).cbm.bounded := by
  have hb := h
  simp only [ControlBlock.bounded] at hb
  unfold setFlag; (repeat' first | split | dsimp only) <;> simp_all

@[simp] theorem addDirty_cbm (joins : Nat → Bool) {s : State} (h : s.cbm.bounded) : (addDirty joins s).cbm.bounded := by
  unfold addDirty; (repeat' first | split | dsimp only) <;> simp [h]

@[simp] theorem mirror_cbm (before : State) {s : State} (h : s.cbm.bounded) : (mirror before s).cbm.bounded := by
  unfold mirror; (repeat' first | split | dsimp only) <;> simp [h]

@[simp] theorem presentCbm_cbm {s : State} (h : s.cbm.bounded) : (presentCbm s).cbm.bounded := by
  have hb := h
  simp only [ControlBlock.bounded] at hb
  unfold presentCbm; (repeat' first | split | dsimp only) <;> simp_all

@[simp] theorem settle_cbm (before : State) {s : State} (h : s.cbm.bounded) : (settle before s).cbm.bounded := by
  unfold settle; (repeat' first | split | dsimp only) <;> simp [h]

@[simp] theorem judgeSupply_cbm (v : Nat) {s : State} (h : s.cbm.bounded) : (judgeSupply v s).cbm.bounded := by
  unfold judgeSupply; (repeat' first | split | dsimp only) <;> simp [h]

@[simp] theorem takeReading_cbm {s : State} (h : s.cbm.bounded) : (takeReading s).cbm.bounded := by
  have hb := h
  simp only [ControlBlock.bounded] at hb
  unfold takeReading
  (repeat' first | split | dsimp only) <;> first | exact h | (simp_all; done) | (simp_all; omega) | ((repeat' first | exact h | apply judgeSupply_cbm) <;> first | simp_all; done | (simp_all; omega))

@[simp] theorem cancelBadFlag_cbm {s : State} (h : s.cbm.bounded) : (cancelBadFlag s).cbm.bounded := by
  unfold cancelBadFlag; (repeat' first | split | dsimp only) <;> simp [h]

@[simp] theorem cancelEffect_cbm {s : State} (h : s.cbm.bounded) : (cancelEffect s).cbm.bounded := by
  unfold cancelEffect; (repeat' first | split | dsimp only) <;> simp [h]

@[simp] theorem enterHeld_cbm (point : HeldPoint) {s : State} (h : s.cbm.bounded) :
    (enterHeld point s).cbm.bounded := by
  unfold enterHeld; (repeat' first | split | dsimp only) <;> simp [h]

@[simp] theorem enterBatteryHold_cbm (atStart : Bool) {s : State} (h : s.cbm.bounded) :
    (enterBatteryHold atStart s).cbm.bounded := by
  unfold enterBatteryHold; (repeat' first | split | dsimp only) <;> simp [h]

@[simp] theorem enterHotHalt_cbm {s : State} (h : s.cbm.bounded) : (enterHotHalt s).cbm.bounded := by
  unfold enterHotHalt; (repeat' first | split | dsimp only) <;> simp [h]

@[simp] theorem enterCoolPace_cbm {s : State} (h : s.cbm.bounded) : (enterCoolPace s).cbm.bounded := by
  unfold enterCoolPace; (repeat' first | split | dsimp only) <;> simp [h]

@[simp] theorem startPhase_cbm (p : Plan) (r : RowRecord) {s : State} (h : s.cbm.bounded) :
    (startPhase p r s).cbm.bounded := by
  have hb := h
  simp only [ControlBlock.bounded] at hb
  unfold startPhase
  (repeat' first | split | dsimp only) <;> first | exact h | (simp_all; done) | (simp_all; omega) | ((repeat' first | exact h | apply enterHotHalt_cbm) <;> first | simp_all; done | (simp_all; omega))

@[simp] theorem planPoint_cbm {s : State} (h : s.cbm.bounded) : (planPoint s).cbm.bounded := by
  unfold planPoint; (repeat' first | split | dsimp only) <;> simp [h]

@[simp] theorem warnCheck_cbm {s : State} (h : s.cbm.bounded) : (warnCheck s).cbm.bounded := by
  unfold warnCheck; (repeat' first | split | dsimp only) <;> simp [h]

@[simp] theorem startBurnRow_cbm (darkness : Option Nat) {s : State} (h : s.cbm.bounded) :
    (startBurnRow darkness s).cbm.bounded := by
  have hb := h
  simp only [ControlBlock.bounded] at hb
  unfold startBurnRow
  (repeat' first | split | dsimp only) <;> first | exact h | (simp_all; done) | (simp_all; omega) | ((repeat' first | exact h | apply enterBatteryHold_cbm | apply takeReading_cbm | apply warnCheck_cbm) <;> first | simp_all; done | (simp_all; omega))

@[simp] theorem startLatchRow_cbm {s : State} (h : s.cbm.bounded) : (startLatchRow s).cbm.bounded := by
  unfold startLatchRow; (repeat' first | split | dsimp only) <;> simp [h]

@[simp] theorem resumeRow_cbm {s : State} (h : s.cbm.bounded) : (resumeRow s).cbm.bounded := by
  unfold resumeRow; (repeat' first | split | dsimp only) <;> simp [h]

@[simp] theorem needCache_cbm {s : State} (h : s.cbm.bounded) : (needCache s).cbm.bounded := by
  have hb := h
  simp only [ControlBlock.bounded] at hb
  unfold needCache
  (repeat' first | split | dsimp only) <;> first | exact h | (simp_all; done) | (simp_all; omega) | ((repeat' first | exact h | apply setFlag_cbm | apply startLatchRow_cbm) <;> first | simp_all; done | (simp_all; omega))

@[simp] theorem nextRow_cbm {s : State} (h : s.cbm.bounded) : (nextRow s).cbm.bounded := by
  unfold nextRow; (repeat' first | split | dsimp only) <;> simp [h]

@[simp] theorem cacheChanged_cbm {s : State} (h : s.cbm.bounded) : (cacheChanged s).cbm.bounded := by
  unfold cacheChanged; (repeat' first | split | dsimp only) <;> simp [h]

@[simp] theorem rowEnd_cbm {s : State} (h : s.cbm.bounded) : (rowEnd s).cbm.bounded := by
  unfold rowEnd; (repeat' first | split | dsimp only) <;> simp [h]

@[simp] theorem setHold_cbm {s : State} (h : s.cbm.bounded) : (setHold s).cbm.bounded := by
  have hb := h
  simp only [ControlBlock.bounded] at hb
  unfold setHold
  (repeat' first | split | dsimp only) <;> first | exact h | (simp_all; done) | (simp_all; omega) | ((repeat' first | exact h | apply enterHeld_cbm) <;> first | simp_all; done | (simp_all; omega))

@[simp] theorem clearHold_cbm {s : State} (h : s.cbm.bounded) : (clearHold s).cbm.bounded := by
  have hb := h
  simp only [ControlBlock.bounded] at hb
  unfold clearHold
  (repeat' first | split | dsimp only) <;> first | exact h | (simp_all; done) | (simp_all; omega) | ((repeat' first | exact h | apply nextRow_cbm | apply resumeRow_cbm | apply takeReading_cbm) <;> first | simp_all; done | (simp_all; omega))

@[simp] theorem toggleHold_cbm {s : State} (h : s.cbm.bounded) : (toggleHold s).cbm.bounded := by
  unfold toggleHold; (repeat' first | split | dsimp only) <;> simp [h]

@[simp] theorem requestCancel_cbm {s : State} (h : s.cbm.bounded) : (requestCancel s).cbm.bounded := by
  have hb := h
  simp only [ControlBlock.bounded] at hb
  unfold requestCancel
  (repeat' first | split | dsimp only) <;> first | exact h | (simp_all; done) | (simp_all; omega) | ((repeat' first | exact h | apply cancelEffect_cbm) <;> first | simp_all; done | (simp_all; omega))

@[simp] theorem idleWork_cbm {s : State} (h : s.cbm.bounded) : (idleWork s).cbm.bounded := by
  unfold idleWork; (repeat' first | split | dsimp only) <;> simp [h]

@[simp] theorem acknowledgeDescError_cbm {s : State} (h : s.cbm.bounded) : (acknowledgeDescError s).cbm.bounded := by
  unfold acknowledgeDescError; (repeat' first | split | dsimp only) <;> simp [h]

@[simp] theorem endStandbyPrint_cbm {s : State} (h : s.cbm.bounded) : (endStandbyPrint s).cbm.bounded := by
  unfold endStandbyPrint; (repeat' first | split | dsimp only) <;> simp [h]

@[simp] theorem endHalt_cbm {s : State} (h : s.cbm.bounded) : (endHalt s).cbm.bounded := by
  unfold endHalt; (repeat' first | split | dsimp only) <;> simp [h]

@[simp] theorem endPacing_cbm {s : State} (h : s.cbm.bounded) : (endPacing s).cbm.bounded := by
  unfold endPacing; (repeat' first | split | dsimp only) <;> simp [h]

@[simp] theorem endBatteryHold_cbm {s : State} (h : s.cbm.bounded) : (endBatteryHold s).cbm.bounded := by
  unfold endBatteryHold; (repeat' first | split | dsimp only) <;> simp [h]

@[simp] theorem acknowledgeHotStop_cbm (relatched : Bool) {s : State} (h : s.cbm.bounded) :
    (acknowledgeHotStop relatched s).cbm.bounded := by
  unfold acknowledgeHotStop; (repeat' first | split | dsimp only) <;> simp [h]

@[simp] theorem judgeTick_cbm {s : State} (h : s.cbm.bounded) : (judgeTick s).cbm.bounded := by
  unfold judgeTick; (repeat' first | split | dsimp only) <;> simp [h]

@[simp] theorem countLost_cbm {s : State} (h : s.cbm.bounded) : (countLost s).cbm.bounded := by
  have hb := h
  simp only [ControlBlock.bounded] at hb
  unfold countLost
  (repeat' first | split | dsimp only) <;> first | exact h | (simp_all; done) | (simp_all; omega) | ((repeat' first | exact h | apply setFlag_cbm) <;> first | simp_all; done | (simp_all; omega))

@[simp] theorem arrive_cbm (e : Entry) {s : State} (h : s.cbm.bounded) : (arrive e s).cbm.bounded := by
  unfold arrive; (repeat' first | split | dsimp only) <;> simp [h]

@[simp] theorem arriveLost_cbm {s : State} (h : s.cbm.bounded) : (arriveLost s).cbm.bounded := by
  unfold arriveLost; (repeat' first | split | dsimp only) <;> simp [h]

@[simp] theorem takeKeyChar_cbm (c : Byte) (rest : List Byte) {s : State} (h : s.cbm.bounded) :
    (takeKeyChar c rest s).cbm.bounded := by
  unfold takeKeyChar; (repeat' first | split | dsimp only) <;> simp [h]

@[simp] theorem chooseSource_cbm {s : State} (h : s.cbm.bounded) : (chooseSource s).cbm.bounded := by
  unfold chooseSource; (repeat' first | split | dsimp only) <;> simp [h]

@[simp] theorem boundary_cbm {s : State} (h : s.cbm.bounded) : (boundary s).cbm.bounded := by
  unfold boundary; (repeat' first | split | dsimp only) <;> simp [h]

@[simp] theorem evaluateFlow_cbm {s : State} (h : s.cbm.bounded) : (evaluateFlow s).cbm.bounded := by
  have hb := h
  simp only [ControlBlock.bounded] at hb
  unfold evaluateFlow
  (repeat' first | split | dsimp only) <;> first | exact h | (simp_all; done) | (simp_all; omega) | ((repeat' first | exact h | apply boundary_cbm) <;> first | simp_all; done | (simp_all; omega))

@[simp] theorem landRxProd_cbm {s : State} (h : s.cbm.bounded) : (landRxProd s).cbm.bounded := by
  unfold landRxProd; (repeat' first | split | dsimp only) <;> simp [h]

@[simp] theorem grantSu_cbm {s : State} (h : s.cbm.bounded) : (grantSu s).cbm.bounded := by
  unfold grantSu; (repeat' first | split | dsimp only) <;> simp [h]

@[simp] theorem actOnRxCons_cbm {s : State} (h : s.cbm.bounded) :
    (actOnRxCons s).cbm.bounded := by
  have hb := h
  simp only [ControlBlock.bounded] at hb
  unfold actOnRxCons
  simp only [tryDeposit_frame]
  apply evaluateFlow_cbm
  simpa using h

@[simp] theorem grantLu_cbm {s : State} (h : s.cbm.bounded) : (grantLu s).cbm.bounded := by
  have hb := h
  simp only [ControlBlock.bounded] at hb
  unfold grantLu
  (repeat' first | split | dsimp only) <;> first | exact h | (simp_all; done) | (simp_all; omega) | ((repeat' first | exact h | apply boundary_cbm) <;> first | simp_all; done | (simp_all; omega))

@[simp] theorem evaluateQuiet_cbm {s : State} (h : s.cbm.bounded) : (evaluateQuiet s).cbm.bounded := by
  have hb := h
  simp only [ControlBlock.bounded] at hb
  unfold evaluateQuiet
  (repeat' first | split | dsimp only) <;> first | exact h | (simp_all; done) | (simp_all; omega) | ((repeat' first | exact h | apply setFlag_cbm) <;> first | simp_all; done | (simp_all; omega))

@[simp] theorem updateQs_cbm (m : Nat) {s : State} (h : s.cbm.bounded) : (updateQs m s).cbm.bounded := by
  have hb := h
  simp only [ControlBlock.bounded] at hb
  unfold updateQs
  (repeat' first | split | dsimp only) <;> first | exact h | (simp_all; done) | (simp_all; omega) | ((repeat' first | exact h | apply evaluateQuiet_cbm) <;> first | simp_all; done | (simp_all; omega))

@[simp] theorem enterFade_cbm {s : State} (h : s.cbm.bounded) : (enterFade s).cbm.bounded := by
  have hb := h
  simp only [ControlBlock.bounded] at hb
  unfold enterFade
  (repeat' first | split | dsimp only) <;> first | exact h | (simp_all; done) | (simp_all; omega) | ((repeat' first | exact h | apply arriveLost_cbm) <;> first | simp_all; done | (simp_all; omega))

@[simp] theorem onlineBoundary_cbm {s : State} (h : s.cbm.bounded) : (onlineBoundary s).cbm.bounded := by
  have hb := h
  simp only [ControlBlock.bounded] at hb
  unfold onlineBoundary
  (repeat' first | split | dsimp only) <;> first | exact h | (simp_all; done) | (simp_all; omega) | ((repeat' first | exact h | apply boundary_cbm | apply evaluateFlow_cbm) <;> first | simp_all; done | (simp_all; omega))

@[simp] theorem enterOnline_cbm {s : State} (h : s.cbm.bounded) : (enterOnline s).cbm.bounded := by
  have hb := h
  simp only [ControlBlock.bounded] at hb
  unfold enterOnline
  (repeat' first | split | dsimp only) <;> first | exact h | (simp_all; done) | (simp_all; omega) | ((repeat' first | exact h | apply arrive_cbm | apply evaluateQuiet_cbm | apply onlineBoundary_cbm) <;> first | simp_all; done | (simp_all; omega))

@[simp] theorem carrierLost_cbm {s : State} (h : s.cbm.bounded) : (carrierLost s).cbm.bounded := by
  have hb := h
  simp only [ControlBlock.bounded] at hb
  unfold carrierLost
  (repeat' first | split | dsimp only) <;> first | exact h | (simp_all; done) | (simp_all; omega) | ((repeat' first | exact h | apply enterFade_cbm) <;> first | simp_all; done | (simp_all; omega))

@[simp] theorem consumeXon_cbm {s : State} (h : s.cbm.bounded) : (consumeXon s).cbm.bounded := by
  have hb := h
  simp only [ControlBlock.bounded] at hb
  unfold consumeXon
  (repeat' first | split | dsimp only) <;> first | exact h | (simp_all; done) | (simp_all; omega) | ((repeat' first | exact h | apply boundary_cbm) <;> first | simp_all; done | (simp_all; omega))

@[simp] theorem deliverFrame_cbm (c : Byte) (parity framing weak : Bool) {s : State} (h : s.cbm.bounded) :
    (deliverFrame c parity framing weak s).cbm.bounded := by
  unfold deliverFrame; (repeat' first | split | dsimp only) <;> simp [h]

@[simp] theorem completeFrame_cbm (r : FrameRecord) {s : State} (h : s.cbm.bounded) :
    (completeFrame r s).cbm.bounded := by
  have hb := h
  simp only [ControlBlock.bounded] at hb
  unfold completeFrame
  (repeat' first | split | dsimp only) <;> first | exact h | (simp_all; done) | (simp_all; omega) | ((repeat' first | exact h | apply deliverFrame_cbm | apply updateQs_cbm) <;> first | simp_all; done | (simp_all; omega))

@[simp] theorem idleMarkBit_cbm (margin : Nat) {s : State} (h : s.cbm.bounded) :
    (idleMarkBit margin s).cbm.bounded := by
  have hb := h
  simp only [ControlBlock.bounded] at hb
  unfold idleMarkBit
  (repeat' first | split | dsimp only) <;> first | exact h | (simp_all; done) | (simp_all; omega) | ((repeat' first | exact h | apply updateQs_cbm) <;> first | simp_all; done | (simp_all; omega))

@[simp] theorem huntBit_cbm (d : Decision) (margin : Nat) {s : State} (h : s.cbm.bounded) :
    (huntBit d margin s).cbm.bounded := by
  unfold huntBit; (repeat' first | split | dsimp only) <;> simp [h]

@[simp] theorem verifyBit_cbm (d : Decision) (margin : Nat) {s : State} (h : s.cbm.bounded) :
    (verifyBit d margin s).cbm.bounded := by
  have hb := h
  simp only [ControlBlock.bounded] at hb
  unfold verifyBit
  (repeat' first | split | dsimp only) <;> first | exact h | (simp_all; done) | (simp_all; omega) | ((repeat' first | exact h | apply idleMarkBit_cbm) <;> first | simp_all; done | (simp_all; omega))

@[simp] theorem frameBit_cbm (r : FrameRecord) (d : Decision) (margin : Nat) {s : State} (h : s.cbm.bounded) :
    (frameBit r d margin s).cbm.bounded := by
  unfold frameBit; (repeat' first | split | dsimp only) <;> simp [h]

@[simp] theorem candidateBit_cbm (c : Candidate) (d : Decision) (margin : Nat) {s : State} (h : s.cbm.bounded) :
    (candidateBit c d margin s).cbm.bounded := by
  have hb := h
  simp only [ControlBlock.bounded] at hb
  unfold candidateBit
  (repeat' first | split | dsimp only) <;> first | exact h | (simp_all; done) | (simp_all; omega) | ((repeat' first | exact h | apply arrive_cbm | apply idleMarkBit_cbm | apply setFlag_cbm) <;> first | simp_all; done | (simp_all; omega))

@[simp] theorem breakBit_cbm (d : Decision) (margin : Nat) {s : State} (h : s.cbm.bounded) :
    (breakBit d margin s).cbm.bounded := by
  have hb := h
  simp only [ControlBlock.bounded] at hb
  unfold breakBit
  (repeat' first | split | dsimp only) <;> first | exact h | (simp_all; done) | (simp_all; omega) | ((repeat' first | exact h | apply idleMarkBit_cbm) <;> first | simp_all; done | (simp_all; omega))

@[simp] theorem receiverBit_cbm (d : Decision) (margin : Nat) {s : State} (h : s.cbm.bounded) :
    (receiverBit d margin s).cbm.bounded := by
  unfold receiverBit; (repeat' first | split | dsimp only) <;> simp [h]

@[simp] theorem integrationBit_cbm (d : Decision) (margin : Nat) {s : State} (h : s.cbm.bounded) :
    (integrationBit d margin s).cbm.bounded := by
  have hb := h
  simp only [ControlBlock.bounded] at hb
  unfold integrationBit
  (repeat' first | split | dsimp only) <;> first | exact h | (simp_all; done) | (simp_all; omega) | ((repeat' first | exact h | apply enterOnline_cbm) <;> first | simp_all; done | (simp_all; omega))

@[simp] theorem bitDecided_cbm (d : Decision) (margin : Nat) {s : State} (h : s.cbm.bounded) :
    (bitDecided d margin s).cbm.bounded := by
  unfold bitDecided; (repeat' first | split | dsimp only) <;> simp [h]

@[simp] theorem expireHold_cbm {s : State} (h : s.cbm.bounded) : (expireHold s).cbm.bounded := by
  have hb := h
  simp only [ControlBlock.bounded] at hb
  unfold expireHold
  (repeat' first | split | dsimp only) <;> first | exact h | (simp_all; done) | (simp_all; omega) | ((repeat' first | exact h | apply arrive_cbm | apply boundary_cbm | apply setFlag_cbm) <;> first | simp_all; done | (simp_all; omega))

@[simp] theorem requestBreak_cbm {s : State} (h : s.cbm.bounded) : (requestBreak s).cbm.bounded := by
  have hb := h
  simp only [ControlBlock.bounded] at hb
  unfold requestBreak
  (repeat' first | split | dsimp only) <;> first | exact h | (simp_all; done) | (simp_all; omega) | ((repeat' first | exact h | apply boundary_cbm) <;> first | simp_all; done | (simp_all; omega))

@[simp] theorem keyBreak_cbm {s : State} (h : s.cbm.bounded) : (keyBreak s).cbm.bounded := by
  unfold keyBreak; (repeat' first | split | dsimp only) <;> simp [h]

@[simp] theorem enqueueKey_cbm (c : Byte) {s : State} (h : s.cbm.bounded) : (enqueueKey c s).cbm.bounded := by
  have hb := h
  simp only [ControlBlock.bounded] at hb
  unfold enqueueKey
  (repeat' first | split | dsimp only) <;> first | exact h | (simp_all; done) | (simp_all; omega) | ((repeat' first | exact h | apply boundary_cbm | apply setFlag_cbm) <;> first | simp_all; done | (simp_all; omega))

@[simp] theorem handCharacter_cbm (v : Byte) {s : State} (h : s.cbm.bounded) : (handCharacter v s).cbm.bounded := by
  unfold handCharacter; (repeat' first | split | dsimp only) <;> simp [h]

@[simp] theorem directAction_cbm (v : Byte) {s : State} (h : s.cbm.bounded) : (directAction v s).cbm.bounded := by
  unfold directAction; (repeat' first | split | dsimp only) <;> simp [h]

@[simp] theorem actOnEvent_cbm (e : KeyEvent) (v : Byte) {s : State} (h : s.cbm.bounded) :
    (actOnEvent e v s).cbm.bounded := by
  unfold actOnEvent; (repeat' first | split | dsimp only) <;> simp [h]

@[simp] theorem landKeymap_cbm {s : State} (h : s.cbm.bounded) : (landKeymap s).cbm.bounded := by
  unfold landKeymap; (repeat' first | split | dsimp only) <;> simp [h]

@[simp] theorem grantKs_cbm {s : State} (h : s.cbm.bounded) : (grantKs s).cbm.bounded := by
  unfold grantKs; (repeat' first | split | dsimp only) <;> simp [h]

@[simp] theorem offer_cbm (e : KeyEvent) {s : State} (h : s.cbm.bounded) :
    (offer e s).cbm.bounded := by
  have hb := h
  simp only [ControlBlock.bounded] at hb
  unfold offer
  split
  · simpa using h
  · simp only [markPress_frame]
    apply setFlag_cbm
    simpa using h

@[simp] theorem makeEvent_cbm (code : Nat) (kind : KeyKind) {s : State} (h : s.cbm.bounded) :
    (makeEvent code kind s).cbm.bounded := by
  unfold makeEvent; (repeat' first | split | dsimp only) <;> simp [h]

@[simp] theorem admitKey_cbm (later : List Nat) (code : Nat) {s : State} (h : s.cbm.bounded) :
    (admitKey later code s).cbm.bounded := by
  unfold admitKey; (repeat' first | split | dsimp only) <;> simp [h]

@[simp] theorem letGo_cbm (code : Nat) {s : State} (h : s.cbm.bounded) : (letGo code s).cbm.bounded := by
  have hb := h
  simp only [ControlBlock.bounded] at hb
  unfold letGo
  (repeat' first | split | dsimp only) <;> first | exact h | (simp_all; done) | (simp_all; omega) | ((repeat' first | exact h | apply makeEvent_cbm) <;> first | simp_all; done | (simp_all; omega))

@[simp] theorem letGoAll_cbm (l : List Nat) {s : State} (h : s.cbm.bounded) : (letGoAll l s).cbm.bounded := by
  induction l generalizing s with
  | nil => exact h
  | cons c rest ih => exact ih (letGo_cbm c h)

@[simp] theorem admitAll_cbm (l : List Nat) {s : State} (h : s.cbm.bounded) : (admitAll l s).cbm.bounded := by
  induction l generalizing s with
  | nil => exact h
  | cons c rest ih => exact ih (admitKey_cbm rest c h)

@[simp] theorem scan_cbm (closed : BitVec 80) {s : State} (h : s.cbm.bounded) : (scan closed s).cbm.bounded := by
  have hb := h
  simp only [ControlBlock.bounded] at hb
  unfold scan
  (repeat' first | split | dsimp only) <;> first | exact h | (simp_all; done) | (simp_all; omega) | ((repeat' first | exact h | apply admitAll_cbm | apply letGoAll_cbm) <;> first | simp_all; done | (simp_all; omega))

@[simp] theorem expireRepeat_cbm (t : RepeatTimer) {s : State} (h : s.cbm.bounded) :
    (expireRepeat t s).cbm.bounded := by
  unfold expireRepeat; (repeat' first | split | dsimp only) <;> simp [h]

@[simp] theorem leaveStandby_cbm {s : State} (h : s.cbm.bounded) : (leaveStandby s).cbm.bounded := by
  have hb := h
  simp only [ControlBlock.bounded] at hb
  unfold leaveStandby; (repeat' first | split | dsimp only) <;> simp_all

@[simp] theorem indexWork_cbm {s : State} (h : s.cbm.bounded) :
    (indexWork s).cbm.bounded := by
  have hb := h
  simp only [ControlBlock.bounded] at hb
  unfold indexWork
  split
  · simp only [actOnKeyCons_frame]; apply actOnRxCons_cbm; apply endStandbyPrint_cbm; exact boundary_cbm h
  · exact endStandbyPrint_cbm h

@[simp] theorem endStandby_cbm {s : State} (h : s.cbm.bounded) : (endStandby s).cbm.bounded := by
  unfold endStandby; (repeat' first | split | dsimp only) <;> simp [h]

@[simp] theorem wakeBy_cbm (waking : Nat) (closed : BitVec 80) {s : State} (h : s.cbm.bounded) :
    (wakeBy waking closed s).cbm.bounded := by
  have hb := h
  simp only [ControlBlock.bounded] at hb
  unfold wakeBy
  (repeat' first | split | dsimp only) <;> first | exact h | (simp_all; done) | (simp_all; omega) | ((repeat' first | exact h | apply endStandby_cbm | apply makeEvent_cbm) <;> first | simp_all; done | (simp_all; omega))

@[simp] theorem wakeScan_cbm (closed : BitVec 80) {s : State} (h : s.cbm.bounded) :
    (wakeScan closed s).cbm.bounded := by
  have hb := h
  simp only [ControlBlock.bounded] at hb
  unfold wakeScan
  (repeat' first | split | dsimp only) <;> first | exact h | (simp_all; done) | (simp_all; omega) | ((repeat' first | exact h | apply wakeBy_cbm) <;> first | simp_all; done | (simp_all; omega))

@[simp] theorem discardPending_cbm {s : State} (h : s.cbm.bounded) : (discardPending s).cbm.bounded := by
  have hb := h
  simp only [ControlBlock.bounded] at hb
  unfold discardPending; (repeat' first | split | dsimp only) <;> simp_all

@[simp] theorem guardSetEffect_cbm (a : Args) {s : State} (h : s.cbm.bounded) : (guardSetEffect a s).cbm.bounded := by
  have hb := h
  simp only [ControlBlock.bounded] at hb
  unfold guardSetEffect
  (repeat' first | split | dsimp only) <;> first | exact h | (simp_all; done) | (simp_all; omega) | ((repeat' first | exact h | apply addDirty_cbm) <;> first | simp_all; done | (simp_all; omega))

@[simp] theorem guardOpenEffect_cbm (a : Args) {s : State} (h : s.cbm.bounded) : (guardOpenEffect a s).cbm.bounded := by
  have hb := h
  simp only [ControlBlock.bounded] at hb
  unfold guardOpenEffect
  (repeat' first | split | dsimp only) <;> first | exact h | (simp_all; done) | (simp_all; omega) | ((repeat' first | exact h | apply addDirty_cbm) <;> first | simp_all; done | (simp_all; omega))

@[simp] theorem softResetEffect_cbm {s : State} (h : s.cbm.bounded) :
    (softResetEffect s).cbm.bounded := by
  have hb := h
  simp only [ControlBlock.bounded] at hb
  simp_all [softResetEffect, ControlBlock.afterReset, ControlBlock.afterSoftReset]

@[simp] theorem confirmableEffect_cbm (p : PendingCommand) {s : State} (h : s.cbm.bounded) :
    (confirmableEffect p s).cbm.bounded := by
  unfold confirmableEffect; (repeat' first | split | dsimp only) <;> simp [h]

@[simp] theorem takeConfirmable_cbm (code : Confirmable) {s : State} (h : s.cbm.bounded) :
    (takeConfirmable code s).2.cbm.bounded := by
  have hb := h
  simp only [ControlBlock.bounded] at hb
  unfold takeConfirmable; (repeat' first | split | dsimp only) <;> simp_all

@[simp] theorem takeConfirm_cbm {s : State} (h : s.cbm.bounded) : (takeConfirm s).2.cbm.bounded := by
  unfold takeConfirm; (repeat' first | split | dsimp only) <;> simp [h]

@[simp] theorem disconnectEffect_cbm {s : State} (h : s.cbm.bounded) : (disconnectEffect s).cbm.bounded := by
  unfold disconnectEffect; (repeat' first | split | dsimp only) <;> simp [h]

@[simp] theorem takeSendBreak_cbm {s : State} (h : s.cbm.bounded) : (takeSendBreak s).2.cbm.bounded := by
  unfold takeSendBreak; (repeat' first | split | dsimp only) <;> simp [h]

@[simp] theorem printHoldEffect_cbm {s : State} (h : s.cbm.bounded) : (printHoldEffect s).cbm.bounded := by
  unfold printHoldEffect; (repeat' first | split | dsimp only) <;> simp [h]

@[simp] theorem printResumeEffect_cbm {s : State} (h : s.cbm.bounded) : (printResumeEffect s).cbm.bounded := by
  unfold printResumeEffect; (repeat' first | split | dsimp only) <;> simp [h]

@[simp] theorem ringsResetEffect_cbm {s : State} (h : s.cbm.bounded) : (ringsResetEffect s).cbm.bounded := by
  have hb := h
  simp only [ControlBlock.bounded] at hb
  unfold ringsResetEffect; (repeat' first | split | dsimp only) <;> simp_all

@[simp] theorem takeRingsReset_cbm {s : State} (h : s.cbm.bounded) : (takeRingsReset s).2.cbm.bounded := by
  unfold takeRingsReset; (repeat' first | split | dsimp only) <;> simp [h]

@[simp] theorem reportDescError_cbm (lo : Byte) {s : State} (h : s.cbm.bounded) :
    (reportDescError lo s).cbm.bounded := by
  unfold reportDescError; (repeat' first | split | dsimp only) <;> simp [h]

@[simp] theorem reportHotStop_cbm (hi : Byte) (again : Bool) {s : State} (h : s.cbm.bounded) :
    (reportHotStop hi again s).cbm.bounded := by
  unfold reportHotStop; (repeat' first | split | dsimp only) <;> simp [h]

@[simp] theorem acknowledge_cbm (lo hi : Byte) {s : State} (h : s.cbm.bounded) : (acknowledge lo hi s).cbm.bounded := by
  have hb := h
  simp only [ControlBlock.bounded] at hb
  unfold acknowledge; (repeat' first | split | dsimp only) <;> simp_all

@[simp] theorem acknowledgeWord_cbm (word : FlagWord) (mask : Byte) {s : State} (h : s.cbm.bounded) :
    (acknowledgeWord word mask s).cbm.bounded := by
  unfold acknowledgeWord; (repeat' first | split | dsimp only) <;> simp [h]

@[simp] theorem takeStandby_cbm {s : State} (h : s.cbm.bounded) : (takeStandby s).2.cbm.bounded := by
  have hb := h
  simp only [ControlBlock.bounded] at hb
  unfold takeStandby; (repeat' first | split | dsimp only) <;> simp_all

@[simp] theorem wakeEffect_cbm {s : State} (h : s.cbm.bounded) : (wakeEffect s).cbm.bounded := by
  unfold wakeEffect; (repeat' first | split | dsimp only) <;> simp [h]

@[simp] theorem runCommand_cbm (c : Command) {s : State} (h : s.cbm.bounded) : (runCommand c s).2.cbm.bounded := by
  unfold runCommand; (repeat' first | split | dsimp only) <;> simp [h]

@[simp] theorem decideAnswer_cbm (code : Byte) {s : State} (h : s.cbm.bounded) :
    (decideAnswer code s).2.cbm.bounded := by
  unfold decideAnswer; (repeat' first | split | dsimp only) <;> simp [h]

@[simp] theorem takeCommand_cbm (code : Byte) {s : State} (h : s.cbm.bounded) : (takeCommand code s).cbm.bounded := by
  have hb := h
  simp only [ControlBlock.bounded] at hb
  unfold takeCommand
  (repeat' first | split | dsimp only) <;> first | exact h | (simp_all; done) | (simp_all; omega) | ((repeat' first | exact h | apply decideAnswer_cbm) <;> first | simp_all; done | (simp_all; omega))

@[simp] theorem takeArg_cbm (index : Fin 6) (v : Byte) {s : State} (h : s.cbm.bounded) :
    (takeArg index v s).cbm.bounded := by
  have hb := h
  simp only [ControlBlock.bounded] at hb
  unfold takeArg; (repeat' first | split | dsimp only) <;> simp_all

@[simp] theorem takeSetting_cbm (reg : SettingReg) (v : Byte) {s : State} (h : s.cbm.bounded) :
    (takeSetting reg v s).cbm.bounded := by
  have hb := h
  simp only [ControlBlock.bounded] at hb
  unfold takeSetting
  (repeat' first | split | dsimp only) <;> first | exact h | (simp_all; done) | (simp_all; omega) | ((repeat' first | exact h | apply expireHold_cbm) <;> first | simp_all; done | (simp_all; omega))

@[simp] theorem takeGeometry_cbm (reg : GeometryReg) (v : Byte) {s : State} (h : s.cbm.bounded) :
    (takeGeometry reg v s).cbm.bounded := by
  have hb := h
  simp only [ControlBlock.bounded] at hb
  unfold takeGeometry; (repeat' first | split | dsimp only) <;> simp_all

@[simp] theorem setProducer_cbm (reg : ProducerIndex) (n : Nat) {s : State} (h : s.cbm.bounded) :
    (setProducer reg n s).cbm.bounded := by
  have hb := h
  simp only [ControlBlock.bounded] at hb
  unfold setProducer; (repeat' first | split | dsimp only) <;> simp_all

@[simp] theorem actOnProducer_cbm (reg : ProducerIndex) {s : State} (h : s.cbm.bounded) :
    (actOnProducer reg s).cbm.bounded := by
  unfold actOnProducer; (repeat' first | split | dsimp only) <;> simp [h]

@[simp] theorem takeProducer_cbm (reg : ProducerIndex) (v : Byte) {s : State} (h : s.cbm.bounded) :
    (takeProducer reg v s).cbm.bounded := by
  unfold takeProducer; (repeat' first | split | dsimp only) <;> simp [h]

@[simp] theorem setConsumer_cbm (reg : ConsumerIndex) (n : Nat) {s : State} (h : s.cbm.bounded) :
    (setConsumer reg n s).cbm.bounded := by
  have hb := h
  simp only [ControlBlock.bounded] at hb
  unfold setConsumer; (repeat' first | split | dsimp only) <;> simp_all

@[simp] theorem actOnConsumer_cbm (reg : ConsumerIndex) {s : State} (h : s.cbm.bounded) :
    (actOnConsumer reg s).cbm.bounded := by
  unfold actOnConsumer; (repeat' first | split | dsimp only) <;> simp [h]

@[simp] theorem takeConsumer_cbm (reg : ConsumerIndex) (v : Byte) {s : State} (h : s.cbm.bounded) :
    (takeConsumer reg v s).cbm.bounded := by
  unfold takeConsumer; (repeat' first | split | dsimp only) <;> simp [h]

@[simp] theorem snoopSetup_cbm (offset : Nat) (v : Byte) {s : State} (h : s.cbm.bounded) :
    (snoopSetup offset v s).cbm.bounded := by
  unfold snoopSetup; (repeat' first | split | dsimp only) <;> simp [h]

@[simp] theorem snoop_cbm (offset : Nat) (v : Byte) {s : State} (h : s.cbm.bounded) :
    (snoop offset v s).cbm.bounded := by
  unfold snoop; (repeat' first | split | dsimp only) <;> simp [h]

@[simp] theorem ownedDrop_cbm {s : State} (h : s.cbm.bounded) : (ownedDrop s).cbm.bounded := by
  unfold ownedDrop; (repeat' first | split | dsimp only) <;> simp [h]

@[simp] theorem guardedDrop_cbm (a : Addr) {s : State} (h : s.cbm.bounded) : (guardedDrop a s).cbm.bounded := by
  have hb := h
  simp only [ControlBlock.bounded] at hb
  unfold guardedDrop
  (repeat' first | split | dsimp only) <;> first | exact h | (simp_all; done) | (simp_all; omega) | ((repeat' first | exact h | apply setFlag_cbm) <;> first | simp_all; done | (simp_all; omega))

@[simp] theorem deliverWrite_cbm (a : Addr) (v : Byte) {s : State} (h : s.cbm.bounded) :
    (deliverWrite a v s).cbm.bounded := by
  unfold deliverWrite; (repeat' first | split | dsimp only) <;> simp [h]

@[simp] theorem hostGrant_cbm (x : HostAccess) {s : State} (h : s.cbm.bounded) : (hostGrant x s).cbm.bounded := by
  unfold hostGrant; (repeat' first | split | dsimp only) <;> simp [h]

@[simp] theorem landAnswer_cbm (w : OwedWrite) (rest : List OwedWrite) {s : State} (h : s.cbm.bounded) :
    (landAnswer w rest s).cbm.bounded := by
  have hb := h
  simp only [ControlBlock.bounded] at hb
  unfold landAnswer; (repeat' first | split | dsimp only) <;> simp_all

@[simp] theorem landStatus_cbm (offset : Nat) {s : State} (h : s.cbm.bounded) :
    (landStatus offset s).cbm.bounded := by
  have hb := h
  simp only [ControlBlock.bounded] at hb
  unfold landStatus
  simp only [withCbm_cbm, writeByte_frame, dirtyBounds_mk]
  exact List.Sublist.trans List.filter_sublist hb

@[simp] theorem grantCbm_cbm {s : State} (h : s.cbm.bounded) : (grantCbm s).cbm.bounded := by
  unfold grantCbm; (repeat' first | split | dsimp only) <;> simp [h]

@[simp] theorem landDescriptorByte_cbm (v : Byte) {s : State} (h : s.cbm.bounded) :
    (landDescriptorByte v s).cbm.bounded := by
  have hb := h
  simp only [ControlBlock.bounded] at hb
  unfold landDescriptorByte
  (repeat' first | split | dsimp only) <;> first | exact h | (simp_all; done) | (simp_all; omega) | ((repeat' first | exact h | apply cacheChanged_cbm) <;> first | simp_all; done | (simp_all; omega))

@[simp] theorem landImageByte_cbm (v : Byte) {s : State} (h : s.cbm.bounded) : (landImageByte v s).cbm.bounded := by
  have hb := h
  simp only [ControlBlock.bounded] at hb
  unfold landImageByte
  (repeat' first | split | dsimp only) <;> first | exact h | (simp_all; done) | (simp_all; omega) | ((repeat' first | exact h | apply cacheChanged_cbm) <;> first | simp_all; done | (simp_all; omega))

@[simp] theorem grantPs_cbm {s : State} (h : s.cbm.bounded) : (grantPs s).cbm.bounded := by
  unfold grantPs; (repeat' first | split | dsimp only) <;> simp [h]

@[simp] theorem grantEffect_cbm (r : Requester) {s : State} (h : s.cbm.bounded) : (grantEffect r s).cbm.bounded := by
  unfold grantEffect; (repeat' first | split | dsimp only) <;> simp [h]

@[simp] theorem grantTo_cbm (r : Requester) {s : State} (h : s.cbm.bounded) : (grantTo r s).cbm.bounded := by
  unfold grantTo; (repeat' first | split | dsimp only) <;> simp [h]

@[simp] theorem grantInternal_cbm {s : State} (h : s.cbm.bounded) : (grantInternal s).cbm.bounded := by
  unfold grantInternal; (repeat' first | split | dsimp only) <;> simp [h]

@[simp] theorem serveWaiting_cbm (x : HostAccess) {s : State} (h : s.cbm.bounded) : (serveWaiting x s).cbm.bounded := by
  have hb := h
  simp only [ControlBlock.bounded] at hb
  unfold serveWaiting
  (repeat' first | split | dsimp only) <;> first | exact h | (simp_all; done) | (simp_all; omega) | ((repeat' first | exact h | apply grantInternal_cbm | apply hostGrant_cbm | apply settle_cbm) <;> first | simp_all; done | (simp_all; omega))

@[simp] theorem hostServe_cbm (x : HostAccess) {s : State} (h : s.cbm.bounded) : (hostServe x s).cbm.bounded := by
  unfold hostServe; split
  · exact serveWaiting_cbm x (by simpa using h)
  · exact serveWaiting_cbm x h

@[simp] theorem afterPowerOnReset_cbm (straps : BitVec 2) {s : State} (h : s.cbm.bounded) :
    (afterPowerOnReset straps s).cbm.bounded := by
  have hb := h
  simp only [ControlBlock.bounded] at hb
  simp [afterPowerOnReset, ControlBlock.afterReset, ControlBlock.afterSoftReset]

@[simp] theorem afterResetLine_cbm {s : State} (h : s.cbm.bounded) :
    (afterResetLine s).cbm.bounded := by
  have hb := h
  simp only [ControlBlock.bounded] at hb
  simp [afterResetLine, ControlBlock.afterReset, ControlBlock.afterSoftReset]

@[simp] theorem serveAll_cbm (l : List HostAccess) {s : State} (h : s.cbm.bounded) : (serveAll l s).cbm.bounded := by
  induction l generalizing s with
  | nil => exact h
  | cons x rest ih => exact ih (serveWaiting_cbm x h)

@[simp] theorem listenRunOut_cbm {s : State} (h : s.cbm.bounded) : (listenRunOut s).cbm.bounded := by
  unfold listenRunOut; (repeat' first | split | dsimp only) <;> simp [h]

@[simp] theorem lossHoldRunOut_cbm {s : State} (h : s.cbm.bounded) : (lossHoldRunOut s).cbm.bounded := by
  unfold lossHoldRunOut; (repeat' first | split | dsimp only) <;> simp [h]

@[simp] theorem operationDone_cbm {s : State} (h : s.cbm.bounded) : (operationDone s).cbm.bounded := by
  have hb := h
  simp only [ControlBlock.bounded] at hb
  unfold operationDone
  (repeat' first | split | dsimp only) <;> first | exact h | (simp_all; done) | (simp_all; omega) | ((repeat' first | exact h | apply boundary_cbm) <;> first | simp_all; done | (simp_all; omega))

@[simp] theorem afterPhase_cbm (p : Plan) (r : RowRecord) {s : State} (h : s.cbm.bounded) :
    (afterPhase p r s).cbm.bounded := by
  unfold afterPhase; (repeat' first | split | dsimp only) <;> simp [h]

@[simp] theorem endPhase_cbm {s : State} (h : s.cbm.bounded) : (endPhase s).cbm.bounded := by
  unfold endPhase; (repeat' first | split | dsimp only) <;> simp [h]

@[simp] theorem stepDone_cbm {s : State} (h : s.cbm.bounded) : (stepDone s).cbm.bounded := by
  have hb := h
  simp only [ControlBlock.bounded] at hb
  unfold stepDone
  (repeat' first | split | dsimp only) <;> first | exact h | (simp_all; done) | (simp_all; omega) | ((repeat' first | exact h | apply rowEnd_cbm) <;> first | simp_all; done | (simp_all; omega))

@[simp] theorem tick_cbm {s : State} (h : s.cbm.bounded) : (tick s).cbm.bounded := by
  unfold tick; (repeat' first | split | dsimp only) <;> simp [h]

@[simp] theorem timedReading_cbm {s : State} (h : s.cbm.bounded) : (timedReading s).cbm.bounded := by
  unfold timedReading; (repeat' first | split | dsimp only) <;> simp [h]

end Sys2Proof.Machine
end

