-- ==== Sys2Proof/Laws/KeepsKeys.lean ====
section
/-! SUPPORT. Every operation keeps KS within its bounds. -/

set_option linter.unusedTactic false
set_option linter.unreachableTactic false
set_option linter.unnecessarySeqFocus false
set_option linter.unusedSimpArgs false

namespace Sys2Proof.Machine

open Sys2Proof

@[simp] theorem keyBounds_mk (a : ScanMode) (b : Nat) (c : List KeyRecord) (d : List HeldKey) (e f : Bool) (g : Option RepeatTimer)
    (i j : Nat) (k : List KeyEvent) (l m n : Nat) (o : Processing) :
    KeyScanner.bounded ⟨a, b, c, d, e, f, g, i, j, k, l, m, n, o⟩ ↔
      c.length = 80 ∧ k.length ≤ 8 ∧ d.length ≤ 4 ∧ l ≤ 255 ∧ (a = .wake → d = []) := Iff.rfl

@[simp] theorem setRecord_scanner (code : Nat) (f : KeyRecord → KeyRecord) (s : State) :
    (setRecord code f s).ks = { s.ks with records := s.ks.records.set code (f (recordAt s code)) } := rfl
@[simp] theorem setClass_scanner (code : Nat) (c : KeyClass) (s : State) :
    (setClass code c s).ks = { s.ks with records := s.ks.records.set code { recordAt s code with cls := c } } := rfl
@[simp] theorem setPress_scanner (code : Nat) (p : PressState) (s : State) :
    (setPress code p s).ks = { s.ks with records := s.ks.records.set code { recordAt s code with press := p } } := rfl
@[simp] theorem moveRecords_length (r : List KeyRecord) (closed : BitVec 80) (h : r.length = 80) :
    (moveRecords r closed).length = 80 := by simp [moveRecords, keyCodes, h]
@[simp] theorem wakeRecords_length (r : List KeyRecord) (closed : BitVec 80) (w : Nat) (h : r.length = 80) :
    (wakeRecords r closed w).length = 80 := by simp [wakeRecords, keyCodes, h]

@[simp] theorem beginDeposit_held (v : Byte) (s : State) : (beginDeposit v s).ks.held = s.ks.held := by
  unfold beginDeposit; split <;> simp
@[simp] theorem beginProcessing_held (s : State) : (beginProcessing s).ks.held = s.ks.held := by
  unfold beginProcessing; (repeat' split) <;> simp
@[simp] theorem tryProcess_held (s : State) : (tryProcess s).ks.held = s.ks.held := by
  unfold tryProcess; split <;> simp
@[simp] theorem endStandby_held (s : State) : (endStandby s).ks.held = s.ks.held := by
  unfold endStandby indexWork; split <;> simp [actOnKeyCons, leaveStandby]
@[simp] theorem beginDeposit_scanMode (v : Byte) (s : State) : (beginDeposit v s).ks.scanMode = s.ks.scanMode := by
  unfold beginDeposit; (repeat' split) <;> simp
@[simp] theorem beginProcessing_scanMode (s : State) : (beginProcessing s).ks.scanMode = s.ks.scanMode := by
  unfold beginProcessing; (repeat' split) <;> simp
@[simp] theorem tryProcess_scanMode (s : State) : (tryProcess s).ks.scanMode = s.ks.scanMode := by
  unfold tryProcess; (repeat' split) <;> simp
@[simp] theorem markPress_scanMode (e : KeyEvent) (p : PressState) (s : State) : (markPress e p s).ks.scanMode = s.ks.scanMode := by
  unfold markPress; (repeat' split) <;> simp
@[simp] theorem offer_scanMode (e : KeyEvent) (s : State) : (offer e s).ks.scanMode = s.ks.scanMode := by
  unfold offer; (repeat' split) <;> simp
@[simp] theorem makeEvent_scanMode (code : Nat) (kind : KeyKind) (s : State) : (makeEvent code kind s).ks.scanMode = s.ks.scanMode := by
  unfold makeEvent; (repeat' split) <;> simp
@[simp] theorem markModifier_scanMode (code : Nat) (isDown : Bool) (s : State) : (markModifier code isDown s).ks.scanMode = s.ks.scanMode := by
  unfold markModifier; (repeat' split) <;> simp
@[simp] theorem startRepeat_scanMode (code : Nat) (s : State) : (startRepeat code s).ks.scanMode = s.ks.scanMode := by
  unfold startRepeat; (repeat' split) <;> simp
@[simp] theorem admitKey_scanMode (later : List Nat) (code : Nat) (s : State) : (admitKey later code s).ks.scanMode = s.ks.scanMode := by
  unfold admitKey; (repeat' split) <;> simp
@[simp] theorem letGo_scanMode (code : Nat) (s : State) : (letGo code s).ks.scanMode = s.ks.scanMode := by
  unfold letGo; (repeat' split) <;> simp
@[simp] theorem letGoAll_scanMode (l : List Nat) (s : State) : (letGoAll l s).ks.scanMode = s.ks.scanMode := by
  induction l generalizing s with
  | nil => rfl
  | cons c rest ih => simp [letGoAll, ih]
@[simp] theorem endStandby_scanMode (s : State) : (endStandby s).ks.scanMode = .matrix := by
  unfold endStandby indexWork; split <;> simp [actOnKeyCons, leaveStandby]
@[simp] theorem knowValue_length (held : List HeldKey) (code : Nat) (v : Byte) :
    (knowValue held code v).length = held.length := by simp [knowValue]
@[simp] theorem knowValue_nil (held : List HeldKey) (code : Nat) (v : Byte) :
    knowValue held code v = [] ↔ held = [] := by simp [knowValue]

@[simp] theorem setRecord_ks (code : Nat) (f : KeyRecord → KeyRecord) {s : State} (h : s.ks.bounded) :
    (setRecord code f s).ks.bounded := by
  have hb := h
  simp only [KeyScanner.bounded] at hb
  unfold setRecord; (repeat' first | split | dsimp only) <;> simp_all

@[simp] theorem setClass_ks (code : Nat) (c : KeyClass) {s : State} (h : s.ks.bounded) :
    (setClass code c s).ks.bounded := by
  have hb := h
  simp only [KeyScanner.bounded] at hb
  unfold setClass; (repeat' first | split | dsimp only) <;> simp_all

@[simp] theorem setPress_ks (code : Nat) (p : PressState) {s : State} (h : s.ks.bounded) :
    (setPress code p s).ks.bounded := by
  have hb := h
  simp only [KeyScanner.bounded] at hb
  unfold setPress; (repeat' first | split | dsimp only) <;> simp_all

@[simp] theorem beginDeposit_ks (v : Byte) {s : State} (h : s.ks.bounded) : (beginDeposit v s).ks.bounded := by
  have hb := h
  simp only [KeyScanner.bounded] at hb
  unfold beginDeposit; (repeat' first | split | dsimp only) <;> simp_all

@[simp] theorem beginProcessing_ks {s : State} (h : s.ks.bounded) : (beginProcessing s).ks.bounded := by
  have hb := h
  simp only [KeyScanner.bounded] at hb
  unfold beginProcessing; (repeat' first | split | dsimp only) <;> simp_all

@[simp] theorem tryProcess_ks {s : State} (h : s.ks.bounded) : (tryProcess s).ks.bounded := by
  unfold tryProcess; (repeat' first | split | dsimp only) <;> simp [h]

@[simp] theorem recordPress_ks (e : KeyEvent) (later : List KeyEvent) (v : Byte) {s : State} (h : s.ks.bounded) :
    (recordPress e later v s).ks.bounded := by
  have hb := h
  simp only [KeyScanner.bounded] at hb
  unfold recordPress; (repeat' first | split | dsimp only) <;> simp_all

@[simp] theorem landKeymap_ks {s : State} (h : s.ks.bounded) : (landKeymap s).ks.bounded := by
  unfold landKeymap; (repeat' first | split | dsimp only) <;> simp [h]

@[simp] theorem landKeyByte_ks (i : Nat) {s : State} (h : s.ks.bounded) : (landKeyByte i s).ks.bounded := by
  have hb := h
  simp only [KeyScanner.bounded] at hb
  unfold landKeyByte; (repeat' first | split | dsimp only) <;> simp_all

@[simp] theorem landKeyProd_ks {s : State} (h : s.ks.bounded) : (landKeyProd s).ks.bounded := by
  have hb := h
  simp only [KeyScanner.bounded] at hb
  unfold landKeyProd
  (repeat' first | split | dsimp only) <;> first | exact h | (simp_all; done) | (simp_all; omega) | ((repeat' first | exact h | apply tryProcess_ks) <;> first | simp_all; done | (simp_all; omega))

@[simp] theorem grantKs_ks {s : State} (h : s.ks.bounded) : (grantKs s).ks.bounded := by
  unfold grantKs; (repeat' first | split | dsimp only) <;> simp [h]

@[simp] theorem actOnKeyCons_ks {s : State} (h : s.ks.bounded) : (actOnKeyCons s).ks.bounded := by
  have hb := h
  simp only [KeyScanner.bounded] at hb
  unfold actOnKeyCons
  (repeat' first | split | dsimp only) <;> first | exact h | (simp_all; done) | (simp_all; omega) | ((repeat' first | exact h | apply tryProcess_ks) <;> first | simp_all; done | (simp_all; omega))

@[simp] theorem markPress_ks (e : KeyEvent) (p : PressState) {s : State} (h : s.ks.bounded) :
    (markPress e p s).ks.bounded := by
  have hb := h
  simp only [KeyScanner.bounded] at hb
  unfold markPress; (repeat' first | split | dsimp only) <;> simp_all

@[simp] theorem offer_ks (e : KeyEvent) {s : State} (h : s.ks.bounded) : (offer e s).ks.bounded := by
  have hb := h
  simp only [KeyScanner.bounded] at hb
  unfold offer
  (repeat' first | split | dsimp only) <;> first | exact h | (simp_all; done) | (simp_all; omega) | ((repeat' first | exact h | apply markPress_ks | apply tryProcess_ks) <;> first | simp_all; done | (simp_all; omega))

@[simp] theorem makeEvent_ks (code : Nat) (kind : KeyKind) {s : State} (h : s.ks.bounded) :
    (makeEvent code kind s).ks.bounded := by
  unfold makeEvent; (repeat' first | split | dsimp only) <;> simp [h]

@[simp] theorem markModifier_ks (code : Nat) (isDown : Bool) {s : State} (h : s.ks.bounded) :
    (markModifier code isDown s).ks.bounded := by
  have hb := h
  simp only [KeyScanner.bounded] at hb
  unfold markModifier; (repeat' first | split | dsimp only) <;> simp_all

@[simp] theorem startRepeat_ks (code : Nat) {s : State} (h : s.ks.bounded) : (startRepeat code s).ks.bounded := by
  have hb := h
  simp only [KeyScanner.bounded] at hb
  unfold startRepeat; (repeat' first | split | dsimp only) <;> simp_all

theorem admitKey_ks (later : List Nat) (code : Nat) {s : State} (h : s.ks.bounded) (hm : s.ks.scanMode = .matrix) :
    (admitKey later code s).ks.bounded := by
  have hb := h
  simp only [KeyScanner.bounded] at hb
  unfold admitKey
  (repeat' first | split | dsimp only)
  · exact setClass_ks code _ h
  · exact makeEvent_ks _ _ (markModifier_ks _ _ (setClass_ks _ _ h))
  · exact setClass_ks code _ h
  · apply makeEvent_ks
    apply startRepeat_ks
    simp [hb, hm]
    omega

@[simp] theorem letGo_ks (code : Nat) {s : State} (h : s.ks.bounded) : (letGo code s).ks.bounded := by
  have hb := h
  simp only [KeyScanner.bounded] at hb
  unfold letGo
  (repeat' first | split | dsimp only)
  · exact h
  · simp [h]
  · apply makeEvent_ks
    have := List.length_filter_le (fun x : HeldKey => x.code != code) s.ks.held
    simp only [withKs_ks, keyBounds_mk]
    refine ⟨hb.1, hb.2.1, by omega, hb.2.2.2.1, fun e => by simp [hb.2.2.2.2 e]⟩

@[simp] theorem letGoAll_ks (l : List Nat) {s : State} (h : s.ks.bounded) : (letGoAll l s).ks.bounded := by
  induction l generalizing s with
  | nil => exact h
  | cons c rest ih => exact ih (letGo_ks c h)

theorem admitAll_ks (l : List Nat) {s : State} (h : s.ks.bounded) (hm : s.ks.scanMode = .matrix) :
    (admitAll l s).ks.bounded := by
  induction l generalizing s with
  | nil => exact h
  | cons c rest ih => exact ih (admitKey_ks rest c h hm) (by simp [hm])

theorem scan_ks (closed : BitVec 80) {s : State} (h : s.ks.bounded) (hm : s.ks.scanMode = .matrix) :
    (scan closed s).ks.bounded := by
  have hb := h
  simp only [KeyScanner.bounded] at hb
  unfold scan
  apply admitAll_ks
  · apply letGoAll_ks; simp_all
  · simp [hm]

@[simp] theorem restartRepeat_ks (t : RepeatTimer) {s : State} (h : s.ks.bounded) : (restartRepeat t s).ks.bounded := by
  have hb := h
  simp only [KeyScanner.bounded] at hb
  unfold restartRepeat; (repeat' first | split | dsimp only) <;> simp_all

@[simp] theorem expireRepeat_ks (t : RepeatTimer) {s : State} (h : s.ks.bounded) : (expireRepeat t s).ks.bounded := by
  have hb := h
  simp only [KeyScanner.bounded] at hb
  unfold expireRepeat; (repeat' first | split | dsimp only) <;> simp_all

@[simp] theorem enterWakeScan_ks {s : State} (h : s.ks.bounded) : (enterWakeScan s).ks.bounded := by
  have hb := h
  simp only [KeyScanner.bounded] at hb
  simp [enterWakeScan, hb]

@[simp] theorem leaveStandby_ks {s : State} (h : s.ks.bounded) : (leaveStandby s).ks.bounded := by
  have hb := h
  simp only [KeyScanner.bounded] at hb
  unfold leaveStandby; (repeat' first | split | dsimp only) <;> simp_all

@[simp] theorem indexWork_ks {s : State} (h : s.ks.bounded) : (indexWork s).ks.bounded := by
  unfold indexWork; (repeat' first | split | dsimp only) <;> simp [h]

@[simp] theorem endStandby_ks {s : State} (h : s.ks.bounded) : (endStandby s).ks.bounded := by
  unfold endStandby; (repeat' first | split | dsimp only) <;> simp [h]

@[simp] theorem wakeBy_ks (waking : Nat) (closed : BitVec 80) {s : State} (h : s.ks.bounded) (hw : s.ks.held = []) :
    (wakeBy waking closed s).ks.bounded := by
  have h1 := endStandby_ks h
  have h2 : (endStandby s).ks.held = [] := by simp [hw]
  simp only [KeyScanner.bounded] at h1
  unfold wakeBy
  dsimp only
  apply makeEvent_ks
  split
  · apply markModifier_ks; simp_all
  · simp_all

@[simp] theorem wakeScan_ks (closed : BitVec 80) {s : State} (h : s.ks.bounded) (hw : s.ks.held = []) :
    (wakeScan closed s).ks.bounded := by
  have hb := h
  simp only [KeyScanner.bounded] at hb
  unfold wakeScan
  dsimp only
  split
  · simp_all
  · apply wakeBy_ks <;> simp_all

@[simp] theorem softResetEffect_ks {s : State} (h : s.ks.bounded) : (softResetEffect s).ks.bounded := by
  have hb := h
  simp only [KeyScanner.bounded] at hb
  simp [softResetEffect, KeyScanner.afterReset, KeyScanner.ringsReset, hb]

@[simp] theorem confirmableEffect_ks (p : PendingCommand) {s : State} (h : s.ks.bounded) :
    (confirmableEffect p s).ks.bounded := by
  unfold confirmableEffect; (repeat' first | split | dsimp only) <;> simp [h]

@[simp] theorem takeConfirm_ks {s : State} (h : s.ks.bounded) : (takeConfirm s).2.ks.bounded := by
  unfold takeConfirm; (repeat' first | split | dsimp only) <;> simp [h]

@[simp] theorem ringsResetEffect_ks {s : State} (h : s.ks.bounded) : (ringsResetEffect s).ks.bounded := by
  have hb := h
  simp only [KeyScanner.bounded] at hb
  simp [ringsResetEffect, KeyScanner.afterReset, KeyScanner.ringsReset, hb]
  exact hb.2.2.2.2

@[simp] theorem takeRingsReset_ks {s : State} (h : s.ks.bounded) : (takeRingsReset s).2.ks.bounded := by
  unfold takeRingsReset; (repeat' first | split | dsimp only) <;> simp [h]

@[simp] theorem takeStandby_ks {s : State} (h : s.ks.bounded) : (takeStandby s).2.ks.bounded := by
  unfold takeStandby; (repeat' first | split | dsimp only) <;> simp [h]

@[simp] theorem wakeEffect_ks {s : State} (h : s.ks.bounded) : (wakeEffect s).ks.bounded := by
  unfold wakeEffect; (repeat' first | split | dsimp only) <;> simp [h]

@[simp] theorem runCommand_ks (c : Command) {s : State} (h : s.ks.bounded) : (runCommand c s).2.ks.bounded := by
  unfold runCommand; (repeat' first | split | dsimp only) <;> simp [h]

@[simp] theorem decideAnswer_ks (code : Byte) {s : State} (h : s.ks.bounded) : (decideAnswer code s).2.ks.bounded := by
  unfold decideAnswer; (repeat' first | split | dsimp only) <;> simp [h]

@[simp] theorem takeCommand_ks (code : Byte) {s : State} (h : s.ks.bounded) : (takeCommand code s).ks.bounded := by
  unfold takeCommand; (repeat' first | split | dsimp only) <;> simp [h]

@[simp] theorem actOnConsumer_ks (reg : ConsumerIndex) {s : State} (h : s.ks.bounded) :
    (actOnConsumer reg s).ks.bounded := by
  unfold actOnConsumer; (repeat' first | split | dsimp only) <;> simp [h]

@[simp] theorem takeConsumer_ks (reg : ConsumerIndex) (v : Byte) {s : State} (h : s.ks.bounded) :
    (takeConsumer reg v s).ks.bounded := by
  unfold takeConsumer; (repeat' first | split | dsimp only) <;> simp [h]

@[simp] theorem snoop_ks (offset : Nat) (v : Byte) {s : State} (h : s.ks.bounded) : (snoop offset v s).ks.bounded := by
  unfold snoop; (repeat' first | split | dsimp only) <;> simp [h]

@[simp] theorem deliverWrite_ks (a : Addr) (v : Byte) {s : State} (h : s.ks.bounded) :
    (deliverWrite a v s).ks.bounded := by
  unfold deliverWrite; (repeat' first | split | dsimp only) <;> simp [h]

@[simp] theorem hostGrant_ks (x : HostAccess) {s : State} (h : s.ks.bounded) : (hostGrant x s).ks.bounded := by
  unfold hostGrant; (repeat' first | split | dsimp only) <;> simp [h]

@[simp] theorem grantEffect_ks (r : Requester) {s : State} (h : s.ks.bounded) : (grantEffect r s).ks.bounded := by
  unfold grantEffect; (repeat' first | split | dsimp only) <;> simp [h]

@[simp] theorem grantTo_ks (r : Requester) {s : State} (h : s.ks.bounded) : (grantTo r s).ks.bounded := by
  unfold grantTo; (repeat' first | split | dsimp only) <;> simp [h]

@[simp] theorem grantInternal_ks {s : State} (h : s.ks.bounded) : (grantInternal s).ks.bounded := by
  unfold grantInternal; (repeat' first | split | dsimp only) <;> simp [h]

@[simp] theorem serveWaiting_ks (x : HostAccess) {s : State} (h : s.ks.bounded) : (serveWaiting x s).ks.bounded := by
  unfold serveWaiting; (repeat' first | split | dsimp only) <;> simp [h]

@[simp] theorem hostServe_ks (x : HostAccess) {s : State} (h : s.ks.bounded) : (hostServe x s).ks.bounded := by
  unfold hostServe; split
  · exact serveWaiting_ks x (by simpa using h)
  · exact serveWaiting_ks x h

@[simp] theorem afterPowerOnReset_ks (straps : BitVec 2) {s : State} (h : s.ks.bounded) : (afterPowerOnReset straps s).ks.bounded := by
  have hb := h
  simp only [KeyScanner.bounded] at hb
  simp [afterPowerOnReset, KeyScanner.afterReset, KeyScanner.ringsReset, hb]

@[simp] theorem afterResetLine_ks {s : State} (h : s.ks.bounded) : (afterResetLine s).ks.bounded := by
  have hb := h
  simp only [KeyScanner.bounded] at hb
  simp [afterResetLine, KeyScanner.afterReset, KeyScanner.ringsReset, hb]

@[simp] theorem serveAll_ks (l : List HostAccess) {s : State} (h : s.ks.bounded) : (serveAll l s).ks.bounded := by
  induction l generalizing s with
  | nil => exact h
  | cons x rest ih => exact ih (serveWaiting_ks x h)

@[simp] theorem releaseLine_ks (straps : BitVec 2) {s : State} (h : s.ks.bounded) :
    (releaseLine straps s).ks.bounded := by
  have hb := h
  simp only [KeyScanner.bounded] at hb
  unfold releaseLine; (repeat' first | split | dsimp only) <;> simp_all

end Sys2Proof.Machine
end

