-- ==== Sys2Proof/Laws/KeepsLine.lean ====
section
/-! SUPPORT. Every operation keeps LU within its bounds. -/

set_option linter.unusedTactic false
set_option linter.unreachableTactic false
set_option linter.unnecessarySeqFocus false
set_option linter.unusedSimpArgs false

namespace Sys2Proof.Machine

open Sys2Proof

@[simp] theorem lineBounds_mk (x0 : LineState) (x1 : Role) (x2 : Nat) (x3 : LineFormat) (x4 : Nat) (x5 : Timer)
    (x6 : Timer) (x7 : Option LossHold) (x8 : MarkRun) (x9 : MarkRun) (x10 : Bool) (x11 : Nat) (x12 : Bool) (x13 :
    TxRest) (x14 : Bool) (x15 : Bool) (x16 : Receiver) (x17 : Bool) (x18 : Bool) (x19 : Timer) (x20 : Bool) (x21 :
    Option TxOp) (x22 : RingFetch) (x23 : Nat) (x24 : List Byte) :  LineUnit.bounded ⟨x0, x1, x2, x3, x4, x5, x6,
    x7, x8, x9, x10, x11, x12, x13, x14, x15, x16, x17, x18, x19, x20, x21, x22, x23, x24⟩ ↔ x11 ≤ 240 ∧ x8.lowest ≤
    15 ∧ x9.lowest ≤ 15 ∧ x9.count < 10 ∧ x16.bounded ∧ x24.length ≤ 16 := Iff.rfl
@[simp] theorem receiverBounds_frame (r : FrameRecord) : Receiver.bounded (.frame r) ↔ r.lowest ≤ 15 := Iff.rfl
@[simp] theorem receiverBounds_idle : Receiver.bounded .idle := trivial
@[simp] theorem receiverBounds_hunt : Receiver.bounded .hunt := trivial
@[simp] theorem receiverBounds_verify : Receiver.bounded .verify := trivial
@[simp] theorem receiverBounds_candidate (c : Candidate) : Receiver.bounded (.candidate c) := trivial
@[simp] theorem receiverBounds_brk : Receiver.bounded .brk := trivial
@[simp] theorem emptyRun_count : emptyRun.count = 0 := rfl
@[simp] theorem emptyRun_lowest : emptyRun.lowest = 15 := rfl
@[simp] theorem markRunAdd_count (r : MarkRun) (m : Nat) : (r.add m).count = r.count + 1 := rfl
@[simp] theorem markRunAdd_lowest (r : MarkRun) (m : Nat) : (r.add m).lowest = min r.lowest m := rfl
@[simp] theorem markOverlap_bounded {l : LineUnit} (h : l.bounded) : (markOverlap l).bounded := by
  have hb := h
  simp only [LineUnit.bounded] at hb
  unfold markOverlap
  split <;> simp_all

@[simp] theorem beginStep_lu {s : State} (h : s.lu.bounded) : (beginStep s).lu.bounded := by
  unfold beginStep; (repeat' first | split | dsimp only) <;> simp [h]

@[simp] theorem requestStep_lu {s : State} (h : s.lu.bounded) : (requestStep s).lu.bounded := by
  unfold requestStep; (repeat' first | split | dsimp only) <;> simp [h]

@[simp] theorem reattempt_lu (before : State) {s : State} (h : s.lu.bounded) : (reattempt before s).lu.bounded := by
  unfold reattempt; (repeat' first | split | dsimp only) <;> simp [h]

@[simp] theorem settle_lu (before : State) {s : State} (h : s.lu.bounded) : (settle before s).lu.bounded := by
  unfold settle; (repeat' first | split | dsimp only) <;> simp [h]

@[simp] theorem planPoint_lu {s : State} (h : s.lu.bounded) : (planPoint s).lu.bounded := by
  have hb := h
  simp only [LineUnit.bounded] at hb
  unfold planPoint
  (repeat' first | split | dsimp only) <;> first | exact h | (simp_all; done) | (simp_all; omega) | ((repeat' first | exact h | apply requestStep_lu) <;> first | simp_all; done | (simp_all; omega))

@[simp] theorem warnCheck_lu {s : State} (h : s.lu.bounded) : (warnCheck s).lu.bounded := by
  unfold warnCheck; (repeat' first | split | dsimp only) <;> simp [h]

@[simp] theorem startBurnRow_lu (darkness : Option Nat) {s : State} (h : s.lu.bounded) :
    (startBurnRow darkness s).lu.bounded := by
  unfold startBurnRow; (repeat' first | split | dsimp only) <;> simp [h]

@[simp] theorem startFeedRow_lu (kind : RowKind) {s : State} (h : s.lu.bounded) : (startFeedRow kind s).lu.bounded := by
  have hb := h
  simp only [LineUnit.bounded] at hb
  unfold startFeedRow
  (repeat' first | split | dsimp only) <;> first | exact h | (simp_all; done) | (simp_all; omega) | ((repeat' first | exact h | apply requestStep_lu) <;> first | simp_all; done | (simp_all; omega))

@[simp] theorem startLatchRow_lu {s : State} (h : s.lu.bounded) : (startLatchRow s).lu.bounded := by
  unfold startLatchRow; (repeat' first | split | dsimp only) <;> simp [h]

@[simp] theorem startLocalFeed_lu {s : State} (h : s.lu.bounded) : (startLocalFeed s).lu.bounded := by
  have hb := h
  simp only [LineUnit.bounded] at hb
  unfold startLocalFeed
  (repeat' first | split | dsimp only) <;> first | exact h | (simp_all; done) | (simp_all; omega) | ((repeat' first | exact h | apply localFeed_lu | apply startFeedRow_lu) <;> first | simp_all; done | (simp_all; omega))

@[simp] theorem resumeRow_lu {s : State} (h : s.lu.bounded) : (resumeRow s).lu.bounded := by
  unfold resumeRow; (repeat' first | split | dsimp only) <;> simp [h]

@[simp] theorem needCache_lu {s : State} (h : s.lu.bounded) : (needCache s).lu.bounded := by
  unfold needCache; (repeat' first | split | dsimp only) <;> simp [h]

@[simp] theorem nextRow_lu {s : State} (h : s.lu.bounded) : (nextRow s).lu.bounded := by
  unfold nextRow; (repeat' first | split | dsimp only) <;> simp [h]

@[simp] theorem cacheChanged_lu {s : State} (h : s.lu.bounded) : (cacheChanged s).lu.bounded := by
  unfold cacheChanged; (repeat' first | split | dsimp only) <;> simp [h]

@[simp] theorem closeRow_lu {s : State} (h : s.lu.bounded) : (closeRow s).lu.bounded := by
  unfold closeRow; (repeat' first | split | dsimp only) <;> simp [h]

@[simp] theorem rowEnd_lu {s : State} (h : s.lu.bounded) : (rowEnd s).lu.bounded := by
  unfold rowEnd; (repeat' first | split | dsimp only) <;> simp [h]

@[simp] theorem clearHold_lu {s : State} (h : s.lu.bounded) : (clearHold s).lu.bounded := by
  have hb := h
  simp only [LineUnit.bounded] at hb
  unfold clearHold
  (repeat' first | split | dsimp only) <;> first | exact h | (simp_all; done) | (simp_all; omega) | ((repeat' first | exact h | apply nextRow_lu | apply resumeRow_lu) <;> first | simp_all; done | (simp_all; omega))

@[simp] theorem toggleHold_lu {s : State} (h : s.lu.bounded) : (toggleHold s).lu.bounded := by
  unfold toggleHold; (repeat' first | split | dsimp only) <;> simp [h]

@[simp] theorem localFeed_lu {s : State} (h : s.lu.bounded) : (localFeed s).lu.bounded := by
  have hb := h
  simp only [LineUnit.bounded] at hb
  unfold localFeed
  (repeat' first | split | dsimp only) <;> first | exact h | (simp_all; done) | (simp_all; omega) | ((repeat' first | exact h | apply startLocalFeed_lu) <;> first | simp_all; done | (simp_all; omega))

@[simp] theorem idleWork_lu {s : State} (h : s.lu.bounded) : (idleWork s).lu.bounded := by
  unfold idleWork; (repeat' first | split | dsimp only) <;> simp [h]

@[simp] theorem acknowledgeDescError_lu {s : State} (h : s.lu.bounded) : (acknowledgeDescError s).lu.bounded := by
  unfold acknowledgeDescError; (repeat' first | split | dsimp only) <;> simp [h]

@[simp] theorem endStandbyPrint_lu {s : State} (h : s.lu.bounded) : (endStandbyPrint s).lu.bounded := by
  unfold endStandbyPrint; (repeat' first | split | dsimp only) <;> simp [h]

@[simp] theorem endHalt_lu {s : State} (h : s.lu.bounded) : (endHalt s).lu.bounded := by
  unfold endHalt; (repeat' first | split | dsimp only) <;> simp [h]

@[simp] theorem endPacing_lu {s : State} (h : s.lu.bounded) : (endPacing s).lu.bounded := by
  unfold endPacing; (repeat' first | split | dsimp only) <;> simp [h]

@[simp] theorem endBatteryHold_lu {s : State} (h : s.lu.bounded) : (endBatteryHold s).lu.bounded := by
  unfold endBatteryHold; (repeat' first | split | dsimp only) <;> simp [h]

@[simp] theorem acknowledgeHotStop_lu (relatched : Bool) {s : State} (h : s.lu.bounded) :
    (acknowledgeHotStop relatched s).lu.bounded := by
  unfold acknowledgeHotStop; (repeat' first | split | dsimp only) <;> simp [h]

@[simp] theorem judgeTick_lu {s : State} (h : s.lu.bounded) : (judgeTick s).lu.bounded := by
  unfold judgeTick; (repeat' first | split | dsimp only) <;> simp [h]

@[simp] theorem startCharacter_lu (c : Byte) {s : State} (h : s.lu.bounded) : (startCharacter c s).lu.bounded := by
  have hb := h
  simp only [LineUnit.bounded] at hb
  unfold startCharacter; (repeat' first | split | dsimp only) <;> simp_all

@[simp] theorem takeFlow_lu {s : State} (h : s.lu.bounded) : (takeFlow s).lu.bounded := by
  have hb := h
  simp only [LineUnit.bounded] at hb
  unfold takeFlow
  (repeat' first | split | dsimp only) <;> first | exact h | (simp_all; done) | (simp_all; omega) | ((repeat' first | exact h | apply startCharacter_lu) <;> first | simp_all; done | (simp_all; omega))

theorem takeKeyChar_lu (c : Byte) (rest : List Byte) {s : State} (h : s.lu.bounded) (hr : rest.length ≤ 16) :
    (takeKeyChar c rest s).lu.bounded := by
  have hb := h
  simp only [LineUnit.bounded] at hb
  unfold takeKeyChar
  have h1 : (startCharacter c (s.withLu { s.lu with keyTx := rest })).lu.bounded := by
    apply startCharacter_lu; simp [hb, hr]
  dsimp only
  split
  · simp [h1]
  · exact h1

@[simp] theorem chooseSource_lu {s : State} (h : s.lu.bounded) :
    (chooseSource s).lu.bounded := by
  have hb := h
  simp only [LineUnit.bounded] at hb
  unfold chooseSource
  split
  · exact takeFlow_lu h
  · split
    · simp [hb]
    · split
      · rename_i c rest e1 e2
        apply takeKeyChar_lu _ _ h
        have := hb.2.2.2.2.2
        rw [e1] at this
        simp only [List.length_cons] at this
        omega
      · split
        · simp [hb]
        · exact h

@[simp] theorem boundary_lu {s : State} (h : s.lu.bounded) : (boundary s).lu.bounded := by
  unfold boundary; (repeat' first | split | dsimp only) <;> simp [h]

@[simp] theorem evaluateFlow_lu {s : State} (h : s.lu.bounded) : (evaluateFlow s).lu.bounded := by
  have hb := h
  simp only [LineUnit.bounded] at hb
  unfold evaluateFlow
  (repeat' first | split | dsimp only) <;> first | exact h | (simp_all; done) | (simp_all; omega) | ((repeat' first | exact h | apply boundary_lu) <;> first | simp_all; done | (simp_all; omega))

@[simp] theorem landRxProd_lu {s : State} (h : s.lu.bounded) : (landRxProd s).lu.bounded := by
  unfold landRxProd; (repeat' first | split | dsimp only) <;> simp [h]

@[simp] theorem grantSu_lu {s : State} (h : s.lu.bounded) : (grantSu s).lu.bounded := by
  unfold grantSu; (repeat' first | split | dsimp only) <;> simp [h]

@[simp] theorem actOnRxCons_lu {s : State} (h : s.lu.bounded) :
    (actOnRxCons s).lu.bounded := by
  have hb := h
  simp only [LineUnit.bounded] at hb
  unfold actOnRxCons
  simp
  apply evaluateFlow_lu
  simp [h]

@[simp] theorem grantLu_lu {s : State} (h : s.lu.bounded) : (grantLu s).lu.bounded := by
  have hb := h
  simp only [LineUnit.bounded] at hb
  unfold grantLu
  (repeat' first | split | dsimp only) <;> first | exact h | (simp_all; done) | (simp_all; omega) | ((repeat' first | exact h | apply boundary_lu | apply startCharacter_lu) <;> first | simp_all; done | (simp_all; omega))

@[simp] theorem evaluateQuiet_lu {s : State} (h : s.lu.bounded) : (evaluateQuiet s).lu.bounded := by
  have hb := h
  simp only [LineUnit.bounded] at hb
  unfold evaluateQuiet; (repeat' first | split | dsimp only) <;> simp_all

theorem updateQs_lu (m : Nat) {s : State} (h : s.lu.bounded) (hm : m ≤ 15) :
    (updateQs m s).lu.bounded := by
  have hb := h
  simp only [LineUnit.bounded] at hb
  unfold updateQs
  apply evaluateQuiet_lu
  simp [hb]
  omega

@[simp] theorem enterOff_lu {s : State} (h : s.lu.bounded) : (enterOff s).lu.bounded := by
  have hb := h
  simp only [LineUnit.bounded] at hb
  unfold enterOff; (repeat' first | split | dsimp only) <;> simp_all

@[simp] theorem enterFade_lu {s : State} (h : s.lu.bounded) : (enterFade s).lu.bounded := by
  have hb := h
  simp only [LineUnit.bounded] at hb
  unfold enterFade; (repeat' first | split | dsimp only) <;> simp_all

@[simp] theorem onlineBoundary_lu {s : State} (h : s.lu.bounded) : (onlineBoundary s).lu.bounded := by
  have hb := h
  simp only [LineUnit.bounded] at hb
  unfold onlineBoundary
  (repeat' first | split | dsimp only) <;> first | exact h | (simp_all; done) | (simp_all; omega) | ((repeat' first | exact h | apply boundary_lu | apply evaluateFlow_lu) <;> first | simp_all; done | (simp_all; omega))

@[simp] theorem enterOnline_lu {s : State} (h : s.lu.bounded) :
    (enterOnline s).lu.bounded := by
  have hb := h
  simp only [LineUnit.bounded] at hb
  unfold enterOnline
  dsimp only
  apply onlineBoundary_lu
  simp only [arrive_frame]
  apply evaluateQuiet_lu
  simp [onlineLine, hb]
  omega

@[simp] theorem carrierUp_lu {s : State} (h : s.lu.bounded) : (carrierUp s).lu.bounded := by
  have hb := h
  simp only [LineUnit.bounded] at hb
  unfold carrierUp; (repeat' first | split | dsimp only) <;> simp_all

@[simp] theorem carrierLost_lu {s : State} (h : s.lu.bounded) : (carrierLost s).lu.bounded := by
  have hb := h
  simp only [LineUnit.bounded] at hb
  unfold carrierLost
  (repeat' first | split | dsimp only) <;> first | exact h | (simp_all; done) | (simp_all; omega) | ((repeat' first | exact h | apply enterFade_lu) <;> first | simp_all; done | (simp_all; omega))

@[simp] theorem consumeXoff_lu {s : State} (h : s.lu.bounded) : (consumeXoff s).lu.bounded := by
  have hb := h
  simp only [LineUnit.bounded] at hb
  unfold consumeXoff; (repeat' first | split | dsimp only) <;> simp_all

@[simp] theorem consumeXon_lu {s : State} (h : s.lu.bounded) : (consumeXon s).lu.bounded := by
  have hb := h
  simp only [LineUnit.bounded] at hb
  unfold consumeXon
  (repeat' first | split | dsimp only) <;> first | exact h | (simp_all; done) | (simp_all; omega) | ((repeat' first | exact h | apply boundary_lu) <;> first | simp_all; done | (simp_all; omega))

@[simp] theorem deliverFrame_lu (c : Byte) (parity framing weak : Bool) {s : State} (h : s.lu.bounded) :
    (deliverFrame c parity framing weak s).lu.bounded := by
  unfold deliverFrame; (repeat' first | split | dsimp only) <;> simp [h]

theorem completeFrame_lu (r : FrameRecord) {s : State} (h : s.lu.bounded) (hr : r.lowest ≤ 15) :
    (completeFrame r s).lu.bounded := by
  have hb := h
  simp only [LineUnit.bounded] at hb
  have h1 := updateQs_lu r.lowest h hr
  have hc := h1
  simp only [LineUnit.bounded] at hc
  unfold completeFrame
  dsimp only
  split
  · simp [hc]
  · apply deliverFrame_lu; simp [hc]

@[simp] theorem idleMarkBit_lu (margin : Nat) {s : State} (h : s.lu.bounded) :
    (idleMarkBit margin s).lu.bounded := by
  have hb := h
  simp only [LineUnit.bounded] at hb
  unfold idleMarkBit
  dsimp only
  split
  · apply updateQs_lu
    · simp [hb]
    · simp [hb]
  · simp_all; omega

@[simp] theorem idleSpaceBit_lu {s : State} (h : s.lu.bounded) : (idleSpaceBit s).lu.bounded := by
  have hb := h
  simp only [LineUnit.bounded] at hb
  unfold idleSpaceBit; (repeat' first | split | dsimp only) <;> simp_all

@[simp] theorem huntBit_lu (d : Decision) (margin : Nat) {s : State} (h : s.lu.bounded) :
    (huntBit d margin s).lu.bounded := by
  unfold huntBit; (repeat' first | split | dsimp only) <;> simp [h]

@[simp] theorem verifyBit_lu (d : Decision) (margin : Nat) {s : State} (h : s.lu.bounded) :
    (verifyBit d margin s).lu.bounded := by
  have hb := h
  simp only [LineUnit.bounded] at hb
  unfold verifyBit
  (repeat' first | split | dsimp only) <;> first | exact h | (simp_all; done) | (simp_all; omega) | ((repeat' first | exact h | apply idleMarkBit_lu) <;> first | simp_all; done | (simp_all; omega))

theorem frameBit_lu (r : FrameRecord) (d : Decision) (margin : Nat) {s : State} (h : s.lu.bounded) (hr : r.lowest ≤ 15) :
    (frameBit r d margin s).lu.bounded := by
  have hb := h
  simp only [LineUnit.bounded] at hb
  unfold frameBit
  dsimp only
  split
  · apply completeFrame_lu _ h
    dsimp only; omega
  · simp [hb]; omega

@[simp] theorem candidateBit_lu (c : Candidate) (d : Decision) (margin : Nat) {s : State} (h : s.lu.bounded) :
    (candidateBit c d margin s).lu.bounded := by
  have hb := h
  simp only [LineUnit.bounded] at hb
  have h1 := idleSpaceBit_lu h
  have hc := h1
  simp only [LineUnit.bounded] at hc
  unfold candidateBit
  dsimp only
  split
  · simp only [arrive_frame]; apply idleMarkBit_lu; simp [hb]
  · split
    · simp [hc]
    · simp [hc]

@[simp] theorem breakBit_lu (d : Decision) (margin : Nat) {s : State} (h : s.lu.bounded) :
    (breakBit d margin s).lu.bounded := by
  have hb := h
  simp only [LineUnit.bounded] at hb
  unfold breakBit
  (repeat' first | split | dsimp only) <;> first | exact h | (simp_all; done) | (simp_all; omega) | ((repeat' first | exact h | apply idleMarkBit_lu | apply idleSpaceBit_lu) <;> first | simp_all; done | (simp_all; omega))

@[simp] theorem receiverBit_lu (d : Decision) (margin : Nat) {s : State} (h : s.lu.bounded) :
    (receiverBit d margin s).lu.bounded := by
  have hb := h
  simp only [LineUnit.bounded] at hb
  unfold receiverBit
  split
  · exact h
  · exact huntBit_lu d margin h
  · exact verifyBit_lu d margin h
  · rename_i r e
    apply frameBit_lu r d margin h
    have := hb.2.2.2.2.1
    rw [e] at this
    exact this
  · exact candidateBit_lu _ d margin h
  · exact breakBit_lu d margin h

@[simp] theorem integrationBit_lu (d : Decision) (margin : Nat) {s : State} (h : s.lu.bounded) :
    (integrationBit d margin s).lu.bounded := by
  have hb := h
  simp only [LineUnit.bounded] at hb
  unfold integrationBit
  (repeat' first | split | dsimp only) <;> first | exact h | (simp_all; done) | (simp_all; omega) | ((repeat' first | exact h | apply enterOnline_lu) <;> first | simp_all; done | (simp_all; omega))

@[simp] theorem bitDecided_lu (d : Decision) (margin : Nat) {s : State} (h : s.lu.bounded) :
    (bitDecided d margin s).lu.bounded := by
  unfold bitDecided; (repeat' first | split | dsimp only) <;> simp [h]

@[simp] theorem startEdgeSeen_lu {s : State} (h : s.lu.bounded) : (startEdgeSeen s).lu.bounded := by
  have hb := h
  simp only [LineUnit.bounded] at hb
  unfold startEdgeSeen; (repeat' first | split | dsimp only) <;> simp_all

@[simp] theorem expireHold_lu {s : State} (h : s.lu.bounded) : (expireHold s).lu.bounded := by
  have hb := h
  simp only [LineUnit.bounded] at hb
  unfold expireHold; (repeat' first | split | dsimp only) <;> simp_all

@[simp] theorem requestBreak_lu {s : State} (h : s.lu.bounded) : (requestBreak s).lu.bounded := by
  have hb := h
  simp only [LineUnit.bounded] at hb
  unfold requestBreak
  (repeat' first | split | dsimp only) <;> first | exact h | (simp_all; done) | (simp_all; omega) | ((repeat' first | exact h | apply boundary_lu) <;> first | simp_all; done | (simp_all; omega))

@[simp] theorem keyBreak_lu {s : State} (h : s.lu.bounded) : (keyBreak s).lu.bounded := by
  unfold keyBreak; (repeat' first | split | dsimp only) <;> simp [h]

@[simp] theorem enqueueKey_lu (c : Byte) {s : State} (h : s.lu.bounded) : (enqueueKey c s).lu.bounded := by
  have hb := h
  simp only [LineUnit.bounded] at hb
  unfold enqueueKey
  (repeat' first | split | dsimp only) <;> first | exact h | (simp_all; done) | (simp_all; omega) | ((repeat' first | exact h | apply boundary_lu) <;> first | simp_all; done | (simp_all; omega))

@[simp] theorem handCharacter_lu (v : Byte) {s : State} (h : s.lu.bounded) : (handCharacter v s).lu.bounded := by
  unfold handCharacter; (repeat' first | split | dsimp only) <;> simp [h]

@[simp] theorem directAction_lu (v : Byte) {s : State} (h : s.lu.bounded) : (directAction v s).lu.bounded := by
  unfold directAction; (repeat' first | split | dsimp only) <;> simp [h]

@[simp] theorem actOnEvent_lu (e : KeyEvent) (v : Byte) {s : State} (h : s.lu.bounded) :
    (actOnEvent e v s).lu.bounded := by
  unfold actOnEvent; (repeat' first | split | dsimp only) <;> simp [h]

@[simp] theorem landKeymap_lu {s : State} (h : s.lu.bounded) : (landKeymap s).lu.bounded := by
  unfold landKeymap; (repeat' first | split | dsimp only) <;> simp [h]

@[simp] theorem grantKs_lu {s : State} (h : s.lu.bounded) : (grantKs s).lu.bounded := by
  unfold grantKs; (repeat' first | split | dsimp only) <;> simp [h]

@[simp] theorem indexWork_lu {s : State} (h : s.lu.bounded) :
    (indexWork s).lu.bounded := by
  have hb := h
  simp only [LineUnit.bounded] at hb
  unfold indexWork
  split
  · simp only [actOnKeyCons_frame]; apply actOnRxCons_lu; apply endStandbyPrint_lu; exact boundary_lu h
  · exact endStandbyPrint_lu h

@[simp] theorem endStandby_lu {s : State} (h : s.lu.bounded) : (endStandby s).lu.bounded := by
  unfold endStandby; (repeat' first | split | dsimp only) <;> simp [h]

@[simp] theorem wakeBy_lu (waking : Nat) (closed : BitVec 80) {s : State} (h : s.lu.bounded) :
    (wakeBy waking closed s).lu.bounded := by
  unfold wakeBy; (repeat' first | split | dsimp only) <;> simp [h]

@[simp] theorem wakeScan_lu (closed : BitVec 80) {s : State} (h : s.lu.bounded) : (wakeScan closed s).lu.bounded := by
  have hb := h
  simp only [LineUnit.bounded] at hb
  unfold wakeScan
  (repeat' first | split | dsimp only) <;> first | exact h | (simp_all; done) | (simp_all; omega) | ((repeat' first | exact h | apply wakeBy_lu) <;> first | simp_all; done | (simp_all; omega))

@[simp] theorem softResetEffect_lu {s : State} (h : s.lu.bounded) :
    (softResetEffect s).lu.bounded := by
  have hb := h
  simp only [LineUnit.bounded] at hb
  simp [softResetEffect, LineUnit.afterSoftReset, LineUnit.afterReset]

@[simp] theorem confirmableEffect_lu (p : PendingCommand) {s : State} (h : s.lu.bounded) :
    (confirmableEffect p s).lu.bounded := by
  unfold confirmableEffect; (repeat' first | split | dsimp only) <;> simp [h]

@[simp] theorem takeConfirm_lu {s : State} (h : s.lu.bounded) : (takeConfirm s).2.lu.bounded := by
  unfold takeConfirm; (repeat' first | split | dsimp only) <;> simp [h]

@[simp] theorem startConnection_lu (role : Role) {s : State} (h : s.lu.bounded) :
    (startConnection role s).lu.bounded := by
  have hb := h
  simp only [LineUnit.bounded] at hb
  unfold startConnection; (repeat' first | split | dsimp only) <;> simp_all

@[simp] theorem takeConnect_lu {s : State} (h : s.lu.bounded) : (takeConnect s).2.lu.bounded := by
  unfold takeConnect; (repeat' first | split | dsimp only) <;> simp [h]

@[simp] theorem disconnectEffect_lu {s : State} (h : s.lu.bounded) : (disconnectEffect s).lu.bounded := by
  unfold disconnectEffect; (repeat' first | split | dsimp only) <;> simp [h]

@[simp] theorem takeSendBreak_lu {s : State} (h : s.lu.bounded) : (takeSendBreak s).2.lu.bounded := by
  unfold takeSendBreak; (repeat' first | split | dsimp only) <;> simp [h]

@[simp] theorem printResumeEffect_lu {s : State} (h : s.lu.bounded) : (printResumeEffect s).lu.bounded := by
  unfold printResumeEffect; (repeat' first | split | dsimp only) <;> simp [h]

@[simp] theorem ringsResetEffect_lu {s : State} (h : s.lu.bounded) : (ringsResetEffect s).lu.bounded := by
  have hb := h
  simp only [LineUnit.bounded] at hb
  unfold ringsResetEffect; (repeat' first | split | dsimp only) <;> simp_all

@[simp] theorem takeRingsReset_lu {s : State} (h : s.lu.bounded) : (takeRingsReset s).2.lu.bounded := by
  unfold takeRingsReset; (repeat' first | split | dsimp only) <;> simp [h]

@[simp] theorem reportDescError_lu (lo : Byte) {s : State} (h : s.lu.bounded) : (reportDescError lo s).lu.bounded := by
  unfold reportDescError; (repeat' first | split | dsimp only) <;> simp [h]

@[simp] theorem reportHotStop_lu (hi : Byte) (again : Bool) {s : State} (h : s.lu.bounded) :
    (reportHotStop hi again s).lu.bounded := by
  unfold reportHotStop; (repeat' first | split | dsimp only) <;> simp [h]

@[simp] theorem acknowledge_lu (lo hi : Byte) {s : State} (h : s.lu.bounded) : (acknowledge lo hi s).lu.bounded := by
  unfold acknowledge; (repeat' first | split | dsimp only) <;> simp [h]

@[simp] theorem acknowledgeWord_lu (word : FlagWord) (mask : Byte) {s : State} (h : s.lu.bounded) :
    (acknowledgeWord word mask s).lu.bounded := by
  unfold acknowledgeWord; (repeat' first | split | dsimp only) <;> simp [h]

@[simp] theorem wakeEffect_lu {s : State} (h : s.lu.bounded) : (wakeEffect s).lu.bounded := by
  unfold wakeEffect; (repeat' first | split | dsimp only) <;> simp [h]

@[simp] theorem runCommand_lu (c : Command) {s : State} (h : s.lu.bounded) : (runCommand c s).2.lu.bounded := by
  unfold runCommand; (repeat' first | split | dsimp only) <;> simp [h]

@[simp] theorem decideAnswer_lu (code : Byte) {s : State} (h : s.lu.bounded) : (decideAnswer code s).2.lu.bounded := by
  unfold decideAnswer; (repeat' first | split | dsimp only) <;> simp [h]

@[simp] theorem takeCommand_lu (code : Byte) {s : State} (h : s.lu.bounded) : (takeCommand code s).lu.bounded := by
  unfold takeCommand; (repeat' first | split | dsimp only) <;> simp [h]

@[simp] theorem takeSetting_lu (reg : SettingReg) (v : Byte) {s : State} (h : s.lu.bounded) :
    (takeSetting reg v s).lu.bounded := by
  have hb := h
  simp only [LineUnit.bounded] at hb
  unfold takeSetting
  (repeat' first | split | dsimp only) <;> first | exact h | (simp_all; done) | (simp_all; omega) | ((repeat' first | exact h | apply expireHold_lu) <;> first | simp_all; done | (simp_all; omega))

@[simp] theorem actOnProducer_lu (reg : ProducerIndex) {s : State} (h : s.lu.bounded) :
    (actOnProducer reg s).lu.bounded := by
  unfold actOnProducer; (repeat' first | split | dsimp only) <;> simp [h]

@[simp] theorem takeProducer_lu (reg : ProducerIndex) (v : Byte) {s : State} (h : s.lu.bounded) :
    (takeProducer reg v s).lu.bounded := by
  unfold takeProducer; (repeat' first | split | dsimp only) <;> simp [h]

@[simp] theorem actOnConsumer_lu (reg : ConsumerIndex) {s : State} (h : s.lu.bounded) :
    (actOnConsumer reg s).lu.bounded := by
  unfold actOnConsumer; (repeat' first | split | dsimp only) <;> simp [h]

@[simp] theorem takeConsumer_lu (reg : ConsumerIndex) (v : Byte) {s : State} (h : s.lu.bounded) :
    (takeConsumer reg v s).lu.bounded := by
  unfold takeConsumer; (repeat' first | split | dsimp only) <;> simp [h]

@[simp] theorem snoopSetup_lu (offset : Nat) (v : Byte) {s : State} (h : s.lu.bounded) :
    (snoopSetup offset v s).lu.bounded := by
  unfold snoopSetup; (repeat' first | split | dsimp only) <;> simp [h]

@[simp] theorem snoop_lu (offset : Nat) (v : Byte) {s : State} (h : s.lu.bounded) : (snoop offset v s).lu.bounded := by
  unfold snoop; (repeat' first | split | dsimp only) <;> simp [h]

@[simp] theorem deliverWrite_lu (a : Addr) (v : Byte) {s : State} (h : s.lu.bounded) :
    (deliverWrite a v s).lu.bounded := by
  unfold deliverWrite; (repeat' first | split | dsimp only) <;> simp [h]

@[simp] theorem hostGrant_lu (x : HostAccess) {s : State} (h : s.lu.bounded) : (hostGrant x s).lu.bounded := by
  unfold hostGrant; (repeat' first | split | dsimp only) <;> simp [h]

@[simp] theorem landDescriptorByte_lu (v : Byte) {s : State} (h : s.lu.bounded) :
    (landDescriptorByte v s).lu.bounded := by
  have hb := h
  simp only [LineUnit.bounded] at hb
  unfold landDescriptorByte
  (repeat' first | split | dsimp only) <;> first | exact h | (simp_all; done) | (simp_all; omega) | ((repeat' first | exact h | apply cacheChanged_lu) <;> first | simp_all; done | (simp_all; omega))

@[simp] theorem landImageByte_lu (v : Byte) {s : State} (h : s.lu.bounded) : (landImageByte v s).lu.bounded := by
  have hb := h
  simp only [LineUnit.bounded] at hb
  unfold landImageByte
  (repeat' first | split | dsimp only) <;> first | exact h | (simp_all; done) | (simp_all; omega) | ((repeat' first | exact h | apply cacheChanged_lu) <;> first | simp_all; done | (simp_all; omega))

@[simp] theorem grantPs_lu {s : State} (h : s.lu.bounded) : (grantPs s).lu.bounded := by
  unfold grantPs; (repeat' first | split | dsimp only) <;> simp [h]

@[simp] theorem grantEffect_lu (r : Requester) {s : State} (h : s.lu.bounded) : (grantEffect r s).lu.bounded := by
  unfold grantEffect; (repeat' first | split | dsimp only) <;> simp [h]

@[simp] theorem grantTo_lu (r : Requester) {s : State} (h : s.lu.bounded) : (grantTo r s).lu.bounded := by
  unfold grantTo; (repeat' first | split | dsimp only) <;> simp [h]

@[simp] theorem grantInternal_lu {s : State} (h : s.lu.bounded) : (grantInternal s).lu.bounded := by
  unfold grantInternal; (repeat' first | split | dsimp only) <;> simp [h]

@[simp] theorem serveWaiting_lu (x : HostAccess) {s : State} (h : s.lu.bounded) : (serveWaiting x s).lu.bounded := by
  have hb := h
  simp only [LineUnit.bounded] at hb
  unfold serveWaiting
  (repeat' first | split | dsimp only) <;> first | exact h | (simp_all; done) | (simp_all; omega) | ((repeat' first | exact h | apply grantInternal_lu | apply hostGrant_lu | apply settle_lu) <;> first | simp_all; done | (simp_all; omega))

@[simp] theorem hostServe_lu (x : HostAccess) {s : State} (h : s.lu.bounded) : (hostServe x s).lu.bounded := by
  unfold hostServe; split
  · exact serveWaiting_lu x (by simpa using h)
  · exact serveWaiting_lu x h

@[simp] theorem afterPowerOnReset_lu (straps : BitVec 2) {s : State} (h : s.lu.bounded) :
    (afterPowerOnReset straps s).lu.bounded := by
  have hb := h
  simp only [LineUnit.bounded] at hb
  simp [afterPowerOnReset, LineUnit.afterSoftReset, LineUnit.afterReset]

@[simp] theorem afterResetLine_lu {s : State} (h : s.lu.bounded) :
    (afterResetLine s).lu.bounded := by
  have hb := h
  simp only [LineUnit.bounded] at hb
  simp [afterResetLine, LineUnit.afterSoftReset, LineUnit.afterReset]

@[simp] theorem serveAll_lu (l : List HostAccess) {s : State} (h : s.lu.bounded) : (serveAll l s).lu.bounded := by
  induction l generalizing s with
  | nil => exact h
  | cons x rest ih => exact ih (serveWaiting_lu x h)

@[simp] theorem qualified_lu {s : State} (h : s.lu.bounded) : (qualified s).lu.bounded := by
  have hb := h
  simp only [LineUnit.bounded] at hb
  unfold qualified; (repeat' first | split | dsimp only) <;> simp_all

@[simp] theorem listenRunOut_lu {s : State} (h : s.lu.bounded) : (listenRunOut s).lu.bounded := by
  unfold listenRunOut; (repeat' first | split | dsimp only) <;> simp [h]

@[simp] theorem lossHoldRunOut_lu {s : State} (h : s.lu.bounded) : (lossHoldRunOut s).lu.bounded := by
  unfold lossHoldRunOut; (repeat' first | split | dsimp only) <;> simp [h]

@[simp] theorem operationDone_lu {s : State} (h : s.lu.bounded) : (operationDone s).lu.bounded := by
  have hb := h
  simp only [LineUnit.bounded] at hb
  unfold operationDone
  (repeat' first | split | dsimp only) <;> first | exact h | (simp_all; done) | (simp_all; omega) | ((repeat' first | exact h | apply boundary_lu) <;> first | simp_all; done | (simp_all; omega))

@[simp] theorem beginTail_lu {s : State} (h : s.lu.bounded) : (beginTail s).lu.bounded := by
  have hb := h
  simp only [LineUnit.bounded] at hb
  unfold beginTail; (repeat' first | split | dsimp only) <;> simp_all

@[simp] theorem afterPhase_lu (p : Plan) (r : RowRecord) {s : State} (h : s.lu.bounded) :
    (afterPhase p r s).lu.bounded := by
  unfold afterPhase; (repeat' first | split | dsimp only) <;> simp [h]

@[simp] theorem endPhase_lu {s : State} (h : s.lu.bounded) : (endPhase s).lu.bounded := by
  unfold endPhase; (repeat' first | split | dsimp only) <;> simp [h]

@[simp] theorem stepDone_lu {s : State} (h : s.lu.bounded) : (stepDone s).lu.bounded := by
  have hb := h
  simp only [LineUnit.bounded] at hb
  unfold stepDone
  (repeat' first | split | dsimp only) <;> first | exact h | (simp_all; done) | (simp_all; omega) | ((repeat' first | exact h | apply rowEnd_lu) <;> first | simp_all; done | (simp_all; omega))

@[simp] theorem tick_lu {s : State} (h : s.lu.bounded) : (tick s).lu.bounded := by
  unfold tick; (repeat' first | split | dsimp only) <;> simp [h]

@[simp] theorem timedReading_lu {s : State} (h : s.lu.bounded) : (timedReading s).lu.bounded := by
  unfold timedReading; (repeat' first | split | dsimp only) <;> simp [h]

end Sys2Proof.Machine
end

