-- ==== Sys2Proof/Laws/KeepsPaper.lean ====
section
/-! SUPPORT. Every operation keeps PD within its bounds. -/

set_option linter.unusedTactic false
set_option linter.unreachableTactic false
set_option linter.unnecessarySeqFocus false
set_option linter.unusedSimpArgs false

namespace Sys2Proof.Machine

open Sys2Proof

@[simp] theorem paperBounds_mk (x0 : StepState) (x1 : Timer) (x2 : Timer) (x3 : Nat) : PaperDrive.bounded ⟨x0,
    x1, x2, x3⟩ ↔ x3 < 4 := Iff.rfl

@[simp] theorem beginStep_pd {s : State} (h : s.pd.bounded) : (beginStep s).pd.bounded := by
  have hb := h
  simp only [PaperDrive.bounded] at hb
  unfold beginStep; (repeat' first | split | dsimp only) <;> simp_all

@[simp] theorem requestStep_pd {s : State} (h : s.pd.bounded) : (requestStep s).pd.bounded := by
  have hb := h
  simp only [PaperDrive.bounded] at hb
  unfold requestStep; (repeat' first | split | dsimp only) <;> simp_all

@[simp] theorem reattempt_pd (before : State) {s : State} (h : s.pd.bounded) : (reattempt before s).pd.bounded := by
  unfold reattempt; (repeat' first | split | dsimp only) <;> simp [h]

@[simp] theorem settle_pd (before : State) {s : State} (h : s.pd.bounded) : (settle before s).pd.bounded := by
  unfold settle; (repeat' first | split | dsimp only) <;> simp [h]

@[simp] theorem planPoint_pd {s : State} (h : s.pd.bounded) : (planPoint s).pd.bounded := by
  have hb := h
  simp only [PaperDrive.bounded] at hb
  unfold planPoint
  (repeat' first | split | dsimp only) <;> first | exact h | (simp_all; done) | (simp_all; omega) | ((repeat' first | exact h | apply requestStep_pd) <;> first | simp_all; done | (simp_all; omega))

@[simp] theorem warnCheck_pd {s : State} (h : s.pd.bounded) : (warnCheck s).pd.bounded := by
  unfold warnCheck; (repeat' first | split | dsimp only) <;> simp [h]

@[simp] theorem startBurnRow_pd (darkness : Option Nat) {s : State} (h : s.pd.bounded) :
    (startBurnRow darkness s).pd.bounded := by
  unfold startBurnRow; (repeat' first | split | dsimp only) <;> simp [h]

@[simp] theorem startFeedRow_pd (kind : RowKind) {s : State} (h : s.pd.bounded) : (startFeedRow kind s).pd.bounded := by
  have hb := h
  simp only [PaperDrive.bounded] at hb
  unfold startFeedRow
  (repeat' first | split | dsimp only) <;> first | exact h | (simp_all; done) | (simp_all; omega) | ((repeat' first | exact h | apply requestStep_pd) <;> first | simp_all; done | (simp_all; omega))

@[simp] theorem startLatchRow_pd {s : State} (h : s.pd.bounded) : (startLatchRow s).pd.bounded := by
  unfold startLatchRow; (repeat' first | split | dsimp only) <;> simp [h]

@[simp] theorem startLocalFeed_pd {s : State} (h : s.pd.bounded) : (startLocalFeed s).pd.bounded := by
  have hb := h
  simp only [PaperDrive.bounded] at hb
  unfold startLocalFeed
  (repeat' first | split | dsimp only) <;> first | exact h | (simp_all; done) | (simp_all; omega) | ((repeat' first | exact h | apply localFeed_pd | apply startFeedRow_pd) <;> first | simp_all; done | (simp_all; omega))

@[simp] theorem resumeRow_pd {s : State} (h : s.pd.bounded) : (resumeRow s).pd.bounded := by
  unfold resumeRow; (repeat' first | split | dsimp only) <;> simp [h]

@[simp] theorem needCache_pd {s : State} (h : s.pd.bounded) : (needCache s).pd.bounded := by
  unfold needCache; (repeat' first | split | dsimp only) <;> simp [h]

@[simp] theorem nextRow_pd {s : State} (h : s.pd.bounded) : (nextRow s).pd.bounded := by
  unfold nextRow; (repeat' first | split | dsimp only) <;> simp [h]

@[simp] theorem cacheChanged_pd {s : State} (h : s.pd.bounded) : (cacheChanged s).pd.bounded := by
  unfold cacheChanged; (repeat' first | split | dsimp only) <;> simp [h]

@[simp] theorem closeRow_pd {s : State} (h : s.pd.bounded) : (closeRow s).pd.bounded := by
  unfold closeRow; (repeat' first | split | dsimp only) <;> simp [h]

@[simp] theorem rowEnd_pd {s : State} (h : s.pd.bounded) : (rowEnd s).pd.bounded := by
  unfold rowEnd; (repeat' first | split | dsimp only) <;> simp [h]

@[simp] theorem clearHold_pd {s : State} (h : s.pd.bounded) : (clearHold s).pd.bounded := by
  have hb := h
  simp only [PaperDrive.bounded] at hb
  unfold clearHold
  (repeat' first | split | dsimp only) <;> first | exact h | (simp_all; done) | (simp_all; omega) | ((repeat' first | exact h | apply nextRow_pd | apply resumeRow_pd) <;> first | simp_all; done | (simp_all; omega))

@[simp] theorem toggleHold_pd {s : State} (h : s.pd.bounded) : (toggleHold s).pd.bounded := by
  unfold toggleHold; (repeat' first | split | dsimp only) <;> simp [h]

@[simp] theorem localFeed_pd {s : State} (h : s.pd.bounded) : (localFeed s).pd.bounded := by
  have hb := h
  simp only [PaperDrive.bounded] at hb
  unfold localFeed
  (repeat' first | split | dsimp only) <;> first | exact h | (simp_all; done) | (simp_all; omega) | ((repeat' first | exact h | apply startLocalFeed_pd) <;> first | simp_all; done | (simp_all; omega))

@[simp] theorem idleWork_pd {s : State} (h : s.pd.bounded) : (idleWork s).pd.bounded := by
  unfold idleWork; (repeat' first | split | dsimp only) <;> simp [h]

@[simp] theorem acknowledgeDescError_pd {s : State} (h : s.pd.bounded) : (acknowledgeDescError s).pd.bounded := by
  unfold acknowledgeDescError; (repeat' first | split | dsimp only) <;> simp [h]

@[simp] theorem endStandbyPrint_pd {s : State} (h : s.pd.bounded) : (endStandbyPrint s).pd.bounded := by
  unfold endStandbyPrint; (repeat' first | split | dsimp only) <;> simp [h]

@[simp] theorem endHalt_pd {s : State} (h : s.pd.bounded) : (endHalt s).pd.bounded := by
  unfold endHalt; (repeat' first | split | dsimp only) <;> simp [h]

@[simp] theorem endPacing_pd {s : State} (h : s.pd.bounded) : (endPacing s).pd.bounded := by
  unfold endPacing; (repeat' first | split | dsimp only) <;> simp [h]

@[simp] theorem endBatteryHold_pd {s : State} (h : s.pd.bounded) : (endBatteryHold s).pd.bounded := by
  unfold endBatteryHold; (repeat' first | split | dsimp only) <;> simp [h]

@[simp] theorem acknowledgeHotStop_pd (relatched : Bool) {s : State} (h : s.pd.bounded) :
    (acknowledgeHotStop relatched s).pd.bounded := by
  unfold acknowledgeHotStop; (repeat' first | split | dsimp only) <;> simp [h]

@[simp] theorem judgeTick_pd {s : State} (h : s.pd.bounded) : (judgeTick s).pd.bounded := by
  unfold judgeTick; (repeat' first | split | dsimp only) <;> simp [h]

@[simp] theorem directAction_pd (v : Byte) {s : State} (h : s.pd.bounded) : (directAction v s).pd.bounded := by
  unfold directAction; (repeat' first | split | dsimp only) <;> simp [h]

@[simp] theorem actOnEvent_pd (e : KeyEvent) (v : Byte) {s : State} (h : s.pd.bounded) :
    (actOnEvent e v s).pd.bounded := by
  unfold actOnEvent; (repeat' first | split | dsimp only) <;> simp [h]

@[simp] theorem landKeymap_pd {s : State} (h : s.pd.bounded) : (landKeymap s).pd.bounded := by
  unfold landKeymap; (repeat' first | split | dsimp only) <;> simp [h]

@[simp] theorem grantKs_pd {s : State} (h : s.pd.bounded) : (grantKs s).pd.bounded := by
  unfold grantKs; (repeat' first | split | dsimp only) <;> simp [h]

@[simp] theorem indexWork_pd {s : State} (h : s.pd.bounded) : (indexWork s).pd.bounded := by
  unfold indexWork; (repeat' first | split | dsimp only) <;> simp [h]

@[simp] theorem endStandby_pd {s : State} (h : s.pd.bounded) : (endStandby s).pd.bounded := by
  unfold endStandby; (repeat' first | split | dsimp only) <;> simp [h]

@[simp] theorem wakeBy_pd (waking : Nat) (closed : BitVec 80) {s : State} (h : s.pd.bounded) :
    (wakeBy waking closed s).pd.bounded := by
  unfold wakeBy; (repeat' first | split | dsimp only) <;> simp [h]

@[simp] theorem wakeScan_pd (closed : BitVec 80) {s : State} (h : s.pd.bounded) : (wakeScan closed s).pd.bounded := by
  have hb := h
  simp only [PaperDrive.bounded] at hb
  unfold wakeScan
  (repeat' first | split | dsimp only) <;> first | exact h | (simp_all; done) | (simp_all; omega) | ((repeat' first | exact h | apply wakeBy_pd) <;> first | simp_all; done | (simp_all; omega))

@[simp] theorem softResetEffect_pd {s : State} (h : s.pd.bounded) :
    (softResetEffect s).pd.bounded := by
  have hb := h
  simp only [PaperDrive.bounded] at hb
  simp_all [softResetEffect, PaperDrive.afterReset]

@[simp] theorem confirmableEffect_pd (p : PendingCommand) {s : State} (h : s.pd.bounded) :
    (confirmableEffect p s).pd.bounded := by
  unfold confirmableEffect; (repeat' first | split | dsimp only) <;> simp [h]

@[simp] theorem takeConfirm_pd {s : State} (h : s.pd.bounded) : (takeConfirm s).2.pd.bounded := by
  unfold takeConfirm; (repeat' first | split | dsimp only) <;> simp [h]

@[simp] theorem printResumeEffect_pd {s : State} (h : s.pd.bounded) : (printResumeEffect s).pd.bounded := by
  unfold printResumeEffect; (repeat' first | split | dsimp only) <;> simp [h]

@[simp] theorem reportDescError_pd (lo : Byte) {s : State} (h : s.pd.bounded) : (reportDescError lo s).pd.bounded := by
  unfold reportDescError; (repeat' first | split | dsimp only) <;> simp [h]

@[simp] theorem reportHotStop_pd (hi : Byte) (again : Bool) {s : State} (h : s.pd.bounded) :
    (reportHotStop hi again s).pd.bounded := by
  unfold reportHotStop; (repeat' first | split | dsimp only) <;> simp [h]

@[simp] theorem acknowledge_pd (lo hi : Byte) {s : State} (h : s.pd.bounded) : (acknowledge lo hi s).pd.bounded := by
  unfold acknowledge; (repeat' first | split | dsimp only) <;> simp [h]

@[simp] theorem acknowledgeWord_pd (word : FlagWord) (mask : Byte) {s : State} (h : s.pd.bounded) :
    (acknowledgeWord word mask s).pd.bounded := by
  unfold acknowledgeWord; (repeat' first | split | dsimp only) <;> simp [h]

@[simp] theorem wakeEffect_pd {s : State} (h : s.pd.bounded) : (wakeEffect s).pd.bounded := by
  unfold wakeEffect; (repeat' first | split | dsimp only) <;> simp [h]

@[simp] theorem runCommand_pd (c : Command) {s : State} (h : s.pd.bounded) : (runCommand c s).2.pd.bounded := by
  unfold runCommand; (repeat' first | split | dsimp only) <;> simp [h]

@[simp] theorem decideAnswer_pd (code : Byte) {s : State} (h : s.pd.bounded) : (decideAnswer code s).2.pd.bounded := by
  unfold decideAnswer; (repeat' first | split | dsimp only) <;> simp [h]

@[simp] theorem takeCommand_pd (code : Byte) {s : State} (h : s.pd.bounded) : (takeCommand code s).pd.bounded := by
  unfold takeCommand; (repeat' first | split | dsimp only) <;> simp [h]

@[simp] theorem snoop_pd (offset : Nat) (v : Byte) {s : State} (h : s.pd.bounded) : (snoop offset v s).pd.bounded := by
  unfold snoop; (repeat' first | split | dsimp only) <;> simp [h]

@[simp] theorem deliverWrite_pd (a : Addr) (v : Byte) {s : State} (h : s.pd.bounded) :
    (deliverWrite a v s).pd.bounded := by
  unfold deliverWrite; (repeat' first | split | dsimp only) <;> simp [h]

@[simp] theorem hostGrant_pd (x : HostAccess) {s : State} (h : s.pd.bounded) : (hostGrant x s).pd.bounded := by
  unfold hostGrant; (repeat' first | split | dsimp only) <;> simp [h]

@[simp] theorem landDescriptorByte_pd (v : Byte) {s : State} (h : s.pd.bounded) :
    (landDescriptorByte v s).pd.bounded := by
  have hb := h
  simp only [PaperDrive.bounded] at hb
  unfold landDescriptorByte
  (repeat' first | split | dsimp only) <;> first | exact h | (simp_all; done) | (simp_all; omega) | ((repeat' first | exact h | apply cacheChanged_pd) <;> first | simp_all; done | (simp_all; omega))

@[simp] theorem landImageByte_pd (v : Byte) {s : State} (h : s.pd.bounded) : (landImageByte v s).pd.bounded := by
  have hb := h
  simp only [PaperDrive.bounded] at hb
  unfold landImageByte
  (repeat' first | split | dsimp only) <;> first | exact h | (simp_all; done) | (simp_all; omega) | ((repeat' first | exact h | apply cacheChanged_pd) <;> first | simp_all; done | (simp_all; omega))

@[simp] theorem grantPs_pd {s : State} (h : s.pd.bounded) : (grantPs s).pd.bounded := by
  unfold grantPs; (repeat' first | split | dsimp only) <;> simp [h]

@[simp] theorem grantEffect_pd (r : Requester) {s : State} (h : s.pd.bounded) : (grantEffect r s).pd.bounded := by
  unfold grantEffect; (repeat' first | split | dsimp only) <;> simp [h]

@[simp] theorem grantTo_pd (r : Requester) {s : State} (h : s.pd.bounded) : (grantTo r s).pd.bounded := by
  unfold grantTo; (repeat' first | split | dsimp only) <;> simp [h]

@[simp] theorem grantInternal_pd {s : State} (h : s.pd.bounded) : (grantInternal s).pd.bounded := by
  unfold grantInternal; (repeat' first | split | dsimp only) <;> simp [h]

@[simp] theorem serveWaiting_pd (x : HostAccess) {s : State} (h : s.pd.bounded) : (serveWaiting x s).pd.bounded := by
  have hb := h
  simp only [PaperDrive.bounded] at hb
  unfold serveWaiting
  (repeat' first | split | dsimp only) <;> first | exact h | (simp_all; done) | (simp_all; omega) | ((repeat' first | exact h | apply grantInternal_pd | apply hostGrant_pd | apply settle_pd) <;> first | simp_all; done | (simp_all; omega))

@[simp] theorem hostServe_pd (x : HostAccess) {s : State} (h : s.pd.bounded) : (hostServe x s).pd.bounded := by
  unfold hostServe; split
  · exact serveWaiting_pd x (by simpa using h)
  · exact serveWaiting_pd x h

@[simp] theorem afterPowerOnReset_pd (straps : BitVec 2) {s : State} (h : s.pd.bounded) :
    (afterPowerOnReset straps s).pd.bounded := by
  have hb := h
  simp only [PaperDrive.bounded] at hb
  simp [afterPowerOnReset, PaperDrive.afterReset]

@[simp] theorem afterResetLine_pd {s : State} (h : s.pd.bounded) :
    (afterResetLine s).pd.bounded := by
  have hb := h
  simp only [PaperDrive.bounded] at hb
  simp [afterResetLine, PaperDrive.afterReset]

@[simp] theorem serveAll_pd (l : List HostAccess) {s : State} (h : s.pd.bounded) : (serveAll l s).pd.bounded := by
  induction l generalizing s with
  | nil => exact h
  | cons x rest ih => exact ih (serveWaiting_pd x h)

@[simp] theorem afterPhase_pd (p : Plan) (r : RowRecord) {s : State} (h : s.pd.bounded) :
    (afterPhase p r s).pd.bounded := by
  unfold afterPhase; (repeat' first | split | dsimp only) <;> simp [h]

@[simp] theorem endPhase_pd {s : State} (h : s.pd.bounded) : (endPhase s).pd.bounded := by
  unfold endPhase; (repeat' first | split | dsimp only) <;> simp [h]

@[simp] theorem stepDone_pd {s : State} (h : s.pd.bounded) : (stepDone s).pd.bounded := by
  have hb := h
  simp only [PaperDrive.bounded] at hb
  unfold stepDone
  (repeat' first | split | dsimp only) <;> first | exact h | (simp_all; done) | (simp_all; omega) | ((repeat' first | exact h | apply rowEnd_pd) <;> first | simp_all; done | (simp_all; omega))

@[simp] theorem tick_pd {s : State} (h : s.pd.bounded) : (tick s).pd.bounded := by
  unfold tick; (repeat' first | split | dsimp only) <;> simp [h]

@[simp] theorem timedReading_pd {s : State} (h : s.pd.bounded) : (timedReading s).pd.bounded := by
  unfold timedReading; (repeat' first | split | dsimp only) <;> simp [h]

end Sys2Proof.Machine
end

