-- ==== Sys2Proof/Laws/KeepsPrint.lean ====
section
/-! SUPPORT. Every operation keeps PS within its bounds. -/

set_option linter.unusedTactic false
set_option linter.unreachableTactic false
set_option linter.unnecessarySeqFocus false
set_option linter.unusedSimpArgs false

namespace Sys2Proof.Machine

open Sys2Proof

@[simp] theorem printBounds_mk (x0 : Engine) (x1 : Nat) (x2 : Nat) (x3 : Cache) (x4 : Option Latch) (x5 : Image)
    (x6 : List Completion) (x7 : Option PsAccess) (x8 : Option RowKind) (x9 : Option RowRecord) (x10 : Option
    HistoryRecord) (x11 : Bool) (x12 : HeldPoint) (x13 : Option CancelRequest) (x14 : Bool) (x15 : Nat) :
    PrintSequencer.bounded ⟨x0, x1, x2, x3, x4, x5, x6, x7, x8, x9, x10, x11, x12, x13, x14, x15⟩ ↔ x15 ≤ 15 :=
    Iff.rfl

@[simp] theorem presentPs_ps {s : State} (h : s.ps.bounded) : (presentPs s).ps.bounded := by
  have hb := h
  simp only [PrintSequencer.bounded] at hb
  unfold presentPs; (repeat' first | split | dsimp only) <;> simp_all

@[simp] theorem setEngine_ps (e : Engine) {s : State} (h : s.ps.bounded) : (setEngine e s).ps.bounded := by
  have hb := h
  simp only [PrintSequencer.bounded] at hb
  unfold setEngine; (repeat' first | split | dsimp only) <;> simp_all

@[simp] theorem beginStep_ps {s : State} (h : s.ps.bounded) : (beginStep s).ps.bounded := by
  have hb := h
  simp only [PrintSequencer.bounded] at hb
  unfold beginStep
  (repeat' first | split | dsimp only) <;> first | exact h | (simp_all; done) | (simp_all; omega) | ((repeat' first | exact h | apply setEngine_ps) <;> first | simp_all; done | (simp_all; omega))

@[simp] theorem requestStep_ps {s : State} (h : s.ps.bounded) : (requestStep s).ps.bounded := by
  have hb := h
  simp only [PrintSequencer.bounded] at hb
  unfold requestStep
  (repeat' first | split | dsimp only) <;> first | exact h | (simp_all; done) | (simp_all; omega) | ((repeat' first | exact h | apply beginStep_ps | apply setEngine_ps) <;> first | simp_all; done | (simp_all; omega))

@[simp] theorem reattempt_ps (before : State) {s : State} (h : s.ps.bounded) : (reattempt before s).ps.bounded := by
  unfold reattempt; (repeat' first | split | dsimp only) <;> simp [h]

@[simp] theorem settle_ps (before : State) {s : State} (h : s.ps.bounded) : (settle before s).ps.bounded := by
  unfold settle; (repeat' first | split | dsimp only) <;> simp [h]

@[simp] theorem beginFetch_ps {s : State} (h : s.ps.bounded) : (beginFetch s).ps.bounded := by
  have hb := h
  simp only [PrintSequencer.bounded] at hb
  unfold beginFetch; (repeat' first | split | dsimp only) <;> simp_all

@[simp] theorem tryFetch_ps {s : State} (h : s.ps.bounded) : (tryFetch s).ps.bounded := by
  unfold tryFetch; (repeat' first | split | dsimp only) <;> simp [h]

@[simp] theorem fetchWork_ps {s : State} (h : s.ps.bounded) : (fetchWork s).ps.bounded := by
  unfold fetchWork; (repeat' first | split | dsimp only) <;> simp [h]

@[simp] theorem actOnPqProd_ps {s : State} (h : s.ps.bounded) : (actOnPqProd s).ps.bounded := by
  have hb := h
  simp only [PrintSequencer.bounded] at hb
  unfold actOnPqProd
  (repeat' first | split | dsimp only) <;> first | exact h | (simp_all; done) | (simp_all; omega) | ((repeat' first | exact h | apply fetchWork_ps) <;> first | simp_all; done | (simp_all; omega))

@[simp] theorem cancelQueue_ps (c : CancelRequest) {s : State} (h : s.ps.bounded) : (cancelQueue c s).ps.bounded := by
  unfold cancelQueue; (repeat' first | split | dsimp only) <;> simp [h]

@[simp] theorem needEmptied_ps {s : State} (h : s.ps.bounded) : (needEmptied s).ps.bounded := by
  have hb := h
  simp only [PrintSequencer.bounded] at hb
  unfold needEmptied
  (repeat' first | split | dsimp only) <;> first | exact h | (simp_all; done) | (simp_all; omega) | ((repeat' first | exact h | apply beginFetch_ps | apply setEngine_ps) <;> first | simp_all; done | (simp_all; omega))

@[simp] theorem cancelEffect_ps {s : State} (h : s.ps.bounded) : (cancelEffect s).ps.bounded := by
  unfold cancelEffect; (repeat' first | split | dsimp only) <;> simp [h]

@[simp] theorem enterHeld_ps (point : HeldPoint) {s : State} (h : s.ps.bounded) : (enterHeld point s).ps.bounded := by
  have hb := h
  simp only [PrintSequencer.bounded] at hb
  unfold enterHeld
  (repeat' first | split | dsimp only) <;> first | exact h | (simp_all; done) | (simp_all; omega) | ((repeat' first | exact h | apply cancelEffect_ps | apply setEngine_ps) <;> first | simp_all; done | (simp_all; omega))

@[simp] theorem enterBatteryHold_ps (atStart : Bool) {s : State} (h : s.ps.bounded) :
    (enterBatteryHold atStart s).ps.bounded := by
  have hb := h
  simp only [PrintSequencer.bounded] at hb
  unfold enterBatteryHold
  (repeat' first | split | dsimp only) <;> first | exact h | (simp_all; done) | (simp_all; omega) | ((repeat' first | exact h | apply cancelEffect_ps | apply setEngine_ps) <;> first | simp_all; done | (simp_all; omega))

@[simp] theorem enterHotHalt_ps {s : State} (h : s.ps.bounded) : (enterHotHalt s).ps.bounded := by
  unfold enterHotHalt; (repeat' first | split | dsimp only) <;> simp [h]

@[simp] theorem enterCoolPace_ps {s : State} (h : s.ps.bounded) : (enterCoolPace s).ps.bounded := by
  unfold enterCoolPace; (repeat' first | split | dsimp only) <;> simp [h]

@[simp] theorem burnPhase_ps (p : Plan) (r : RowRecord) {s : State} (h : s.ps.bounded) :
    (burnPhase p r s).ps.bounded := by
  have hb := h
  simp only [PrintSequencer.bounded] at hb
  unfold burnPhase; (repeat' first | split | dsimp only) <;> simp_all

@[simp] theorem startPhase_ps (p : Plan) (r : RowRecord) {s : State} (h : s.ps.bounded) :
    (startPhase p r s).ps.bounded := by
  have hb := h
  simp only [PrintSequencer.bounded] at hb
  unfold startPhase
  split
  · apply enterHotHalt_ps; simpa using h
  · exact burnPhase_ps p r h

@[simp] theorem planPoint_ps {s : State} (h : s.ps.bounded) :
    (planPoint s).ps.bounded := by
  have hb := h
  simp only [PrintSequencer.bounded] at hb
  unfold planPoint
  split
  · exact h
  · split
    · exact enterHeld_ps _ h
    · dsimp only
      split
      · apply requestStep_ps; simp [hb]
      · apply startPhase_ps; apply setEngine_ps; simp [hb]

@[simp] theorem warnCheck_ps {s : State} (h : s.ps.bounded) : (warnCheck s).ps.bounded := by
  unfold warnCheck; (repeat' first | split | dsimp only) <;> simp [h]

@[simp] theorem startBurnRow_ps (darkness : Option Nat) {s : State} (h : s.ps.bounded) :
    (startBurnRow darkness s).ps.bounded := by
  have hb := h
  simp only [PrintSequencer.bounded] at hb
  unfold startBurnRow; (repeat' first | split | dsimp only) <;> simp_all

@[simp] theorem startFeedRow_ps (kind : RowKind) {s : State} (h : s.ps.bounded) : (startFeedRow kind s).ps.bounded := by
  have hb := h
  simp only [PrintSequencer.bounded] at hb
  unfold startFeedRow
  (repeat' first | split | dsimp only) <;> first | exact h | (simp_all; done) | (simp_all; omega) | ((repeat' first | exact h | apply requestStep_ps) <;> first | simp_all; done | (simp_all; omega))

@[simp] theorem startLatchRow_ps {s : State} (h : s.ps.bounded) : (startLatchRow s).ps.bounded := by
  unfold startLatchRow; (repeat' first | split | dsimp only) <;> simp [h]

@[simp] theorem startLocalFeed_ps {s : State} (h : s.ps.bounded) : (startLocalFeed s).ps.bounded := by
  have hb := h
  simp only [PrintSequencer.bounded] at hb
  unfold startLocalFeed
  (repeat' first | split | dsimp only) <;> first | exact h | (simp_all; done) | (simp_all; omega) | ((repeat' first | exact h | apply localFeed_ps | apply startFeedRow_ps) <;> first | simp_all; done | (simp_all; omega))

@[simp] theorem resumeRow_ps {s : State} (h : s.ps.bounded) : (resumeRow s).ps.bounded := by
  unfold resumeRow; (repeat' first | split | dsimp only) <;> simp [h]

@[simp] theorem transfer_ps (position : Nat) (d : Descriptor) (image : Image) {s : State} (h : s.ps.bounded) :
    (transfer position d image s).ps.bounded := by
  have hb := h
  simp only [PrintSequencer.bounded] at hb
  unfold transfer
  (repeat' first | split | dsimp only) <;> first | exact h | (simp_all; done) | (simp_all; omega) | ((repeat' first | exact h | apply tryFetch_ps) <;> first | simp_all; done | (simp_all; omega))

@[simp] theorem needCache_ps {s : State} (h : s.ps.bounded) : (needCache s).ps.bounded := by
  have hb := h
  simp only [PrintSequencer.bounded] at hb
  unfold needCache; (repeat' first | split | dsimp only) <;> simp_all

@[simp] theorem nextRow_ps {s : State} (h : s.ps.bounded) : (nextRow s).ps.bounded := by
  unfold nextRow; (repeat' first | split | dsimp only) <;> simp [h]

@[simp] theorem cacheChanged_ps {s : State} (h : s.ps.bounded) : (cacheChanged s).ps.bounded := by
  unfold cacheChanged; (repeat' first | split | dsimp only) <;> simp [h]

@[simp] theorem closeRow_ps {s : State} (h : s.ps.bounded) : (closeRow s).ps.bounded := by
  have hb := h
  simp only [PrintSequencer.bounded] at hb
  unfold closeRow; (repeat' first | split | dsimp only) <;> simp_all

@[simp] theorem rowEnd_ps {s : State} (h : s.ps.bounded) : (rowEnd s).ps.bounded := by
  unfold rowEnd; (repeat' first | split | dsimp only) <;> simp [h]

@[simp] theorem setHold_ps {s : State} (h : s.ps.bounded) : (setHold s).ps.bounded := by
  have hb := h
  simp only [PrintSequencer.bounded] at hb
  unfold setHold
  (repeat' first | split | dsimp only) <;> first | exact h | (simp_all; done) | (simp_all; omega) | ((repeat' first | exact h | apply enterHeld_ps) <;> first | simp_all; done | (simp_all; omega))

@[simp] theorem clearHold_ps {s : State} (h : s.ps.bounded) : (clearHold s).ps.bounded := by
  have hb := h
  simp only [PrintSequencer.bounded] at hb
  unfold clearHold
  (repeat' first | split | dsimp only) <;> first | exact h | (simp_all; done) | (simp_all; omega) | ((repeat' first | exact h | apply nextRow_ps | apply resumeRow_ps) <;> first | simp_all; done | (simp_all; omega))

@[simp] theorem toggleHold_ps {s : State} (h : s.ps.bounded) : (toggleHold s).ps.bounded := by
  unfold toggleHold; (repeat' first | split | dsimp only) <;> simp [h]

@[simp] theorem localFeed_ps {s : State} (h : s.ps.bounded) : (localFeed s).ps.bounded := by
  have hb := h
  simp only [PrintSequencer.bounded] at hb
  unfold localFeed
  (repeat' first | split | dsimp only) <;> first | exact h | (simp_all; done) | (simp_all; omega) | ((repeat' first | exact h | apply startLocalFeed_ps) <;> first | simp_all; done | (simp_all; omega))

@[simp] theorem requestCancel_ps {s : State} (h : s.ps.bounded) : (requestCancel s).ps.bounded := by
  have hb := h
  simp only [PrintSequencer.bounded] at hb
  unfold requestCancel
  (repeat' first | split | dsimp only) <;> first | exact h | (simp_all; done) | (simp_all; omega) | ((repeat' first | exact h | apply cancelEffect_ps) <;> first | simp_all; done | (simp_all; omega))

@[simp] theorem idleWork_ps {s : State} (h : s.ps.bounded) : (idleWork s).ps.bounded := by
  unfold idleWork; (repeat' first | split | dsimp only) <;> simp [h]

@[simp] theorem acknowledgeDescError_ps {s : State} (h : s.ps.bounded) : (acknowledgeDescError s).ps.bounded := by
  unfold acknowledgeDescError; (repeat' first | split | dsimp only) <;> simp [h]

@[simp] theorem endStandbyPrint_ps {s : State} (h : s.ps.bounded) : (endStandbyPrint s).ps.bounded := by
  unfold endStandbyPrint; (repeat' first | split | dsimp only) <;> simp [h]

@[simp] theorem endHalt_ps {s : State} (h : s.ps.bounded) : (endHalt s).ps.bounded := by
  unfold endHalt; (repeat' first | split | dsimp only) <;> simp [h]

@[simp] theorem endPacing_ps {s : State} (h : s.ps.bounded) : (endPacing s).ps.bounded := by
  unfold endPacing; (repeat' first | split | dsimp only) <;> simp [h]

@[simp] theorem endBatteryHold_ps {s : State} (h : s.ps.bounded) : (endBatteryHold s).ps.bounded := by
  unfold endBatteryHold; (repeat' first | split | dsimp only) <;> simp [h]

@[simp] theorem acknowledgeHotStop_ps (relatched : Bool) {s : State} (h : s.ps.bounded) :
    (acknowledgeHotStop relatched s).ps.bounded := by
  unfold acknowledgeHotStop; (repeat' first | split | dsimp only) <;> simp [h]

@[simp] theorem judgeTick_ps {s : State} (h : s.ps.bounded) : (judgeTick s).ps.bounded := by
  unfold judgeTick; (repeat' first | split | dsimp only) <;> simp [h]

@[simp] theorem directAction_ps (v : Byte) {s : State} (h : s.ps.bounded) : (directAction v s).ps.bounded := by
  unfold directAction; (repeat' first | split | dsimp only) <;> simp [h]

@[simp] theorem actOnEvent_ps (e : KeyEvent) (v : Byte) {s : State} (h : s.ps.bounded) :
    (actOnEvent e v s).ps.bounded := by
  unfold actOnEvent; (repeat' first | split | dsimp only) <;> simp [h]

@[simp] theorem landKeymap_ps {s : State} (h : s.ps.bounded) : (landKeymap s).ps.bounded := by
  unfold landKeymap; (repeat' first | split | dsimp only) <;> simp [h]

@[simp] theorem grantKs_ps {s : State} (h : s.ps.bounded) : (grantKs s).ps.bounded := by
  unfold grantKs; (repeat' first | split | dsimp only) <;> simp [h]

@[simp] theorem indexWork_ps {s : State} (h : s.ps.bounded) : (indexWork s).ps.bounded := by
  unfold indexWork; (repeat' first | split | dsimp only) <;> simp [h]

@[simp] theorem endStandby_ps {s : State} (h : s.ps.bounded) : (endStandby s).ps.bounded := by
  unfold endStandby; (repeat' first | split | dsimp only) <;> simp [h]

@[simp] theorem wakeBy_ps (waking : Nat) (closed : BitVec 80) {s : State} (h : s.ps.bounded) :
    (wakeBy waking closed s).ps.bounded := by
  unfold wakeBy; (repeat' first | split | dsimp only) <;> simp [h]

@[simp] theorem wakeScan_ps (closed : BitVec 80) {s : State} (h : s.ps.bounded) : (wakeScan closed s).ps.bounded := by
  have hb := h
  simp only [PrintSequencer.bounded] at hb
  unfold wakeScan
  (repeat' first | split | dsimp only) <;> first | exact h | (simp_all; done) | (simp_all; omega) | ((repeat' first | exact h | apply wakeBy_ps) <;> first | simp_all; done | (simp_all; omega))

@[simp] theorem softResetEffect_ps {s : State} (h : s.ps.bounded) :
    (softResetEffect s).ps.bounded := by
  have hb := h
  simp only [PrintSequencer.bounded] at hb
  simp [softResetEffect, PrintSequencer.afterReset]

@[simp] theorem confirmableEffect_ps (p : PendingCommand) {s : State} (h : s.ps.bounded) :
    (confirmableEffect p s).ps.bounded := by
  unfold confirmableEffect; (repeat' first | split | dsimp only) <;> simp [h]

@[simp] theorem takeConfirm_ps {s : State} (h : s.ps.bounded) : (takeConfirm s).2.ps.bounded := by
  unfold takeConfirm; (repeat' first | split | dsimp only) <;> simp [h]

@[simp] theorem printHoldEffect_ps {s : State} (h : s.ps.bounded) : (printHoldEffect s).ps.bounded := by
  unfold printHoldEffect; (repeat' first | split | dsimp only) <;> simp [h]

@[simp] theorem printResumeEffect_ps {s : State} (h : s.ps.bounded) : (printResumeEffect s).ps.bounded := by
  unfold printResumeEffect; (repeat' first | split | dsimp only) <;> simp [h]

@[simp] theorem ringsResetEffect_ps {s : State} (h : s.ps.bounded) : (ringsResetEffect s).ps.bounded := by
  unfold ringsResetEffect; (repeat' first | split | dsimp only) <;> simp [h]

@[simp] theorem takeRingsReset_ps {s : State} (h : s.ps.bounded) : (takeRingsReset s).2.ps.bounded := by
  unfold takeRingsReset; (repeat' first | split | dsimp only) <;> simp [h]

@[simp] theorem reportDescError_ps (lo : Byte) {s : State} (h : s.ps.bounded) : (reportDescError lo s).ps.bounded := by
  unfold reportDescError; (repeat' first | split | dsimp only) <;> simp [h]

@[simp] theorem reportHotStop_ps (hi : Byte) (again : Bool) {s : State} (h : s.ps.bounded) :
    (reportHotStop hi again s).ps.bounded := by
  unfold reportHotStop; (repeat' first | split | dsimp only) <;> simp [h]

@[simp] theorem acknowledge_ps (lo hi : Byte) {s : State} (h : s.ps.bounded) : (acknowledge lo hi s).ps.bounded := by
  unfold acknowledge; (repeat' first | split | dsimp only) <;> simp [h]

@[simp] theorem acknowledgeWord_ps (word : FlagWord) (mask : Byte) {s : State} (h : s.ps.bounded) :
    (acknowledgeWord word mask s).ps.bounded := by
  unfold acknowledgeWord; (repeat' first | split | dsimp only) <;> simp [h]

@[simp] theorem wakeEffect_ps {s : State} (h : s.ps.bounded) : (wakeEffect s).ps.bounded := by
  unfold wakeEffect; (repeat' first | split | dsimp only) <;> simp [h]

@[simp] theorem runCommand_ps (c : Command) {s : State} (h : s.ps.bounded) : (runCommand c s).2.ps.bounded := by
  unfold runCommand; (repeat' first | split | dsimp only) <;> simp [h]

@[simp] theorem decideAnswer_ps (code : Byte) {s : State} (h : s.ps.bounded) : (decideAnswer code s).2.ps.bounded := by
  unfold decideAnswer; (repeat' first | split | dsimp only) <;> simp [h]

@[simp] theorem takeCommand_ps (code : Byte) {s : State} (h : s.ps.bounded) : (takeCommand code s).ps.bounded := by
  unfold takeCommand; (repeat' first | split | dsimp only) <;> simp [h]

@[simp] theorem actOnProducer_ps (reg : ProducerIndex) {s : State} (h : s.ps.bounded) :
    (actOnProducer reg s).ps.bounded := by
  unfold actOnProducer; (repeat' first | split | dsimp only) <;> simp [h]

@[simp] theorem takeProducer_ps (reg : ProducerIndex) (v : Byte) {s : State} (h : s.ps.bounded) :
    (takeProducer reg v s).ps.bounded := by
  unfold takeProducer; (repeat' first | split | dsimp only) <;> simp [h]

@[simp] theorem snoop_ps (offset : Nat) (v : Byte) {s : State} (h : s.ps.bounded) : (snoop offset v s).ps.bounded := by
  unfold snoop; (repeat' first | split | dsimp only) <;> simp [h]

@[simp] theorem deliverWrite_ps (a : Addr) (v : Byte) {s : State} (h : s.ps.bounded) :
    (deliverWrite a v s).ps.bounded := by
  unfold deliverWrite; (repeat' first | split | dsimp only) <;> simp [h]

@[simp] theorem hostGrant_ps (x : HostAccess) {s : State} (h : s.ps.bounded) : (hostGrant x s).ps.bounded := by
  unfold hostGrant; (repeat' first | split | dsimp only) <;> simp [h]

@[simp] theorem landResult_ps (c : Completion) {s : State} (h : s.ps.bounded) : (landResult c s).ps.bounded := by
  have hb := h
  simp only [PrintSequencer.bounded] at hb
  unfold landResult; (repeat' first | split | dsimp only) <;> simp_all

@[simp] theorem landPqCons_ps (c : Completion) (rest : List Completion) {s : State} (h : s.ps.bounded) :
    (landPqCons c rest s).ps.bounded := by
  unfold landPqCons; exact fetchWork_ps h

@[simp] theorem landDescriptorByte_ps (v : Byte) {s : State} (h : s.ps.bounded) :
    (landDescriptorByte v s).ps.bounded := by
  have hb := h
  simp only [PrintSequencer.bounded] at hb
  unfold landDescriptorByte
  (repeat' first | split | dsimp only) <;> first | exact h | (simp_all; done) | (simp_all; omega) | ((repeat' first | exact h | apply cacheChanged_ps) <;> first | simp_all; done | (simp_all; omega))

@[simp] theorem landImageByte_ps (v : Byte) {s : State} (h : s.ps.bounded) : (landImageByte v s).ps.bounded := by
  have hb := h
  simp only [PrintSequencer.bounded] at hb
  unfold landImageByte
  (repeat' first | split | dsimp only) <;> first | exact h | (simp_all; done) | (simp_all; omega) | ((repeat' first | exact h | apply cacheChanged_ps) <;> first | simp_all; done | (simp_all; omega))

@[simp] theorem freePs_ps {s : State} (h : s.ps.bounded) : (freePs s).ps.bounded := by
  have hb := h
  simp only [PrintSequencer.bounded] at hb
  unfold freePs; (repeat' first | split | dsimp only) <;> simp_all

@[simp] theorem grantResult_ps {s : State} (h : s.ps.bounded) : (grantResult s).ps.bounded := by
  unfold grantResult; (repeat' first | split | dsimp only) <;> simp [h]

@[simp] theorem grantPqCons_ps {s : State} (h : s.ps.bounded) : (grantPqCons s).ps.bounded := by
  unfold grantPqCons; (repeat' first | split | dsimp only) <;> simp [h]

@[simp] theorem grantPs_ps {s : State} (h : s.ps.bounded) : (grantPs s).ps.bounded := by
  unfold grantPs; (repeat' first | split | dsimp only) <;> simp [h]

@[simp] theorem grantEffect_ps (r : Requester) {s : State} (h : s.ps.bounded) : (grantEffect r s).ps.bounded := by
  unfold grantEffect; (repeat' first | split | dsimp only) <;> simp [h]

@[simp] theorem grantTo_ps (r : Requester) {s : State} (h : s.ps.bounded) : (grantTo r s).ps.bounded := by
  unfold grantTo; (repeat' first | split | dsimp only) <;> simp [h]

@[simp] theorem grantInternal_ps {s : State} (h : s.ps.bounded) : (grantInternal s).ps.bounded := by
  unfold grantInternal; (repeat' first | split | dsimp only) <;> simp [h]

@[simp] theorem serveWaiting_ps (x : HostAccess) {s : State} (h : s.ps.bounded) : (serveWaiting x s).ps.bounded := by
  have hb := h
  simp only [PrintSequencer.bounded] at hb
  unfold serveWaiting
  (repeat' first | split | dsimp only) <;> first | exact h | (simp_all; done) | (simp_all; omega) | ((repeat' first | exact h | apply grantInternal_ps | apply hostGrant_ps | apply settle_ps) <;> first | simp_all; done | (simp_all; omega))

@[simp] theorem hostServe_ps (x : HostAccess) {s : State} (h : s.ps.bounded) : (hostServe x s).ps.bounded := by
  unfold hostServe; split
  · exact serveWaiting_ps x (by simpa using h)
  · exact serveWaiting_ps x h

@[simp] theorem afterPowerOnReset_ps (straps : BitVec 2) {s : State} (h : s.ps.bounded) :
    (afterPowerOnReset straps s).ps.bounded := by
  have hb := h
  simp only [PrintSequencer.bounded] at hb
  simp [afterPowerOnReset, PrintSequencer.afterReset]

@[simp] theorem afterResetLine_ps {s : State} (h : s.ps.bounded) :
    (afterResetLine s).ps.bounded := by
  have hb := h
  simp only [PrintSequencer.bounded] at hb
  simp [afterResetLine, PrintSequencer.afterReset]

@[simp] theorem serveAll_ps (l : List HostAccess) {s : State} (h : s.ps.bounded) : (serveAll l s).ps.bounded := by
  induction l generalizing s with
  | nil => exact h
  | cons x rest ih => exact ih (serveWaiting_ps x h)

@[simp] theorem afterPhase_ps (p : Plan) (r : RowRecord) {s : State} (h : s.ps.bounded) :
    (afterPhase p r s).ps.bounded := by
  unfold afterPhase; (repeat' first | split | dsimp only) <;> simp [h]

@[simp] theorem endPhase_ps {s : State} (h : s.ps.bounded) : (endPhase s).ps.bounded := by
  have hb := h
  simp only [PrintSequencer.bounded] at hb
  unfold endPhase
  (repeat' first | split | dsimp only) <;> first | exact h | (simp_all; done) | (simp_all; omega) | ((repeat' first | exact h | apply afterPhase_ps) <;> first | simp_all; done | (simp_all; omega))

@[simp] theorem stepDone_ps {s : State} (h : s.ps.bounded) : (stepDone s).ps.bounded := by
  have hb := h
  simp only [PrintSequencer.bounded] at hb
  unfold stepDone
  (repeat' first | split | dsimp only) <;> first | exact h | (simp_all; done) | (simp_all; omega) | ((repeat' first | exact h | apply rowEnd_ps) <;> first | simp_all; done | (simp_all; omega))

@[simp] theorem tick_ps {s : State} (h : s.ps.bounded) : (tick s).ps.bounded := by
  unfold tick; (repeat' first | split | dsimp only) <;> simp [h]

@[simp] theorem timedReading_ps {s : State} (h : s.ps.bounded) : (timedReading s).ps.bounded := by
  unfold timedReading; (repeat' first | split | dsimp only) <;> simp [h]

end Sys2Proof.Machine
end

