-- ==== Sys2Proof/Laws/KeepsStream.lean ====
section
/-! SUPPORT. Every operation keeps SU within its bounds. -/

set_option linter.unusedTactic false
set_option linter.unreachableTactic false
set_option linter.unnecessarySeqFocus false
set_option linter.unusedSimpArgs false

namespace Sys2Proof.Machine

open Sys2Proof

@[simp] theorem streamBounds_mk (a : List Entry) (b c d e : Nat) (f : Deposit) (g : OwnFlow) :
    StreamUnit.bounded ⟨a, b, c, d, e, f, g⟩ ↔ a.length ≤ 8 ∧ b ≤ 255 ∧ c ≤ 65535 ∧ (0 < b → a.length = 8) := Iff.rfl

@[simp] theorem tryDeposit_su {s : State} (h : s.su.bounded) : (tryDeposit s).su.bounded := by
  have hb := h
  simp only [StreamUnit.bounded] at hb
  unfold tryDeposit; (repeat' first | split | dsimp only) <;> simp_all

theorem countLost_su {s : State} (h : s.su.bounded) (h8 : 8 ≤ s.su.staging.length) : (countLost s).su.bounded := by
  have hb := h
  simp only [StreamUnit.bounded] at hb
  simp [countLost, satSucc_le, hb]; omega

@[simp] theorem placeLost_su {s : State} (h : s.su.bounded) : (placeLost s).su.bounded := by
  have hb := h
  simp only [StreamUnit.bounded] at hb
  unfold placeLost; (repeat' first | split | dsimp only) <;> simp_all

@[simp] theorem arrive_su (e : Entry) {s : State} (h : s.su.bounded) : (arrive e s).su.bounded := by
  have hb := h
  simp only [StreamUnit.bounded] at hb
  unfold arrive
  split
  · apply tryDeposit_su; simp_all; omega
  · exact countLost_su h (by omega)

@[simp] theorem arriveLost_su {s : State} (h : s.su.bounded) : (arriveLost s).su.bounded := by
  have hb := h
  simp only [StreamUnit.bounded] at hb
  have := @satSucc_le 255 s.su.lostCount hb.2.1
  have := @satSucc_le 65535 s.su.lostTotal hb.2.2.1
  have hp : (placeLost (countLost s)).su.bounded := by
    unfold placeLost countLost
    split <;> simp_all <;> omega
  unfold arriveLost
  exact tryDeposit_su hp

@[simp] theorem takeFlow_su {s : State} (h : s.su.bounded) : (takeFlow s).su.bounded := by
  have hb := h
  simp only [StreamUnit.bounded] at hb
  unfold takeFlow; (repeat' first | split | dsimp only) <;> simp_all

@[simp] theorem takeKeyChar_su (c : Byte) (rest : List Byte) {s : State} (h : s.su.bounded) :
    (takeKeyChar c rest s).su.bounded := by
  unfold takeKeyChar; (repeat' first | split | dsimp only) <;> simp [h]

@[simp] theorem chooseSource_su {s : State} (h : s.su.bounded) : (chooseSource s).su.bounded := by
  unfold chooseSource; (repeat' first | split | dsimp only) <;> simp [h]

@[simp] theorem boundary_su {s : State} (h : s.su.bounded) : (boundary s).su.bounded := by
  unfold boundary; (repeat' first | split | dsimp only) <;> simp [h]

@[simp] theorem evaluateFlow_su {s : State} (h : s.su.bounded) : (evaluateFlow s).su.bounded := by
  have hb := h
  simp only [StreamUnit.bounded] at hb
  unfold evaluateFlow
  (repeat' first | split | dsimp only) <;> first | exact h | (simp_all; done) | (simp_all; omega) | ((repeat' first | exact h | apply boundary_su) <;> first | simp_all; done | (simp_all; omega))

@[simp] theorem landRxProd_su {s : State} (h : s.su.bounded) : (landRxProd s).su.bounded := by
  have hb := h
  simp only [StreamUnit.bounded] at hb
  unfold landRxProd
  apply tryDeposit_su
  apply evaluateFlow_su
  unfold placeLost
  dsimp only
  split <;> simp_all <;> omega

@[simp] theorem grantSu_su {s : State} (h : s.su.bounded) : (grantSu s).su.bounded := by
  have hb := h
  simp only [StreamUnit.bounded] at hb
  unfold grantSu; (repeat' first | split | dsimp only) <;> simp_all

@[simp] theorem actOnRxCons_su {s : State} (h : s.su.bounded) : (actOnRxCons s).su.bounded := by
  have hb := h
  simp only [StreamUnit.bounded] at hb
  unfold actOnRxCons
  (repeat' first | split | dsimp only) <;> first | exact h | (simp_all; done) | (simp_all; omega) | ((repeat' first | exact h | apply evaluateFlow_su | apply tryDeposit_su) <;> first | simp_all; done | (simp_all; omega))

@[simp] theorem grantLu_su {s : State} (h : s.su.bounded) : (grantLu s).su.bounded := by
  have hb := h
  simp only [StreamUnit.bounded] at hb
  unfold grantLu
  (repeat' first | split | dsimp only) <;> first | exact h | (simp_all; done) | (simp_all; omega) | ((repeat' first | exact h | apply boundary_su) <;> first | simp_all; done | (simp_all; omega))

@[simp] theorem enterOff_su {s : State} (h : s.su.bounded) : (enterOff s).su.bounded := by
  have hb := h
  simp only [StreamUnit.bounded] at hb
  unfold enterOff; (repeat' first | split | dsimp only) <;> simp_all

@[simp] theorem enterFade_su {s : State} (h : s.su.bounded) : (enterFade s).su.bounded := by
  have hb := h
  simp only [StreamUnit.bounded] at hb
  unfold enterFade
  (repeat' first | split | dsimp only) <;> first | exact h | (simp_all; done) | (simp_all; omega) | ((repeat' first | exact h | apply arriveLost_su) <;> first | simp_all; done | (simp_all; omega))

@[simp] theorem onlineBoundary_su {s : State} (h : s.su.bounded) : (onlineBoundary s).su.bounded := by
  have hb := h
  simp only [StreamUnit.bounded] at hb
  unfold onlineBoundary
  (repeat' first | split | dsimp only) <;> first | exact h | (simp_all; done) | (simp_all; omega) | ((repeat' first | exact h | apply boundary_su | apply evaluateFlow_su) <;> first | simp_all; done | (simp_all; omega))

@[simp] theorem enterOnline_su {s : State} (h : s.su.bounded) : (enterOnline s).su.bounded := by
  unfold enterOnline; (repeat' first | split | dsimp only) <;> simp [h]

@[simp] theorem carrierLost_su {s : State} (h : s.su.bounded) : (carrierLost s).su.bounded := by
  have hb := h
  simp only [StreamUnit.bounded] at hb
  unfold carrierLost
  (repeat' first | split | dsimp only) <;> first | exact h | (simp_all; done) | (simp_all; omega) | ((repeat' first | exact h | apply enterFade_su) <;> first | simp_all; done | (simp_all; omega))

@[simp] theorem consumeXon_su {s : State} (h : s.su.bounded) : (consumeXon s).su.bounded := by
  have hb := h
  simp only [StreamUnit.bounded] at hb
  unfold consumeXon
  (repeat' first | split | dsimp only) <;> first | exact h | (simp_all; done) | (simp_all; omega) | ((repeat' first | exact h | apply boundary_su) <;> first | simp_all; done | (simp_all; omega))

@[simp] theorem deliverFrame_su (c : Byte) (parity framing weak : Bool) {s : State} (h : s.su.bounded) :
    (deliverFrame c parity framing weak s).su.bounded := by
  unfold deliverFrame; (repeat' first | split | dsimp only) <;> simp [h]

@[simp] theorem completeFrame_su (r : FrameRecord) {s : State} (h : s.su.bounded) : (completeFrame r s).su.bounded := by
  unfold completeFrame; (repeat' first | split | dsimp only) <;> simp [h]

@[simp] theorem frameBit_su (r : FrameRecord) (d : Decision) (margin : Nat) {s : State} (h : s.su.bounded) :
    (frameBit r d margin s).su.bounded := by
  unfold frameBit; (repeat' first | split | dsimp only) <;> simp [h]

@[simp] theorem candidateBit_su (c : Candidate) (d : Decision) (margin : Nat) {s : State} (h : s.su.bounded) :
    (candidateBit c d margin s).su.bounded := by
  unfold candidateBit; (repeat' first | split | dsimp only) <;> simp [h]

@[simp] theorem receiverBit_su (d : Decision) (margin : Nat) {s : State} (h : s.su.bounded) :
    (receiverBit d margin s).su.bounded := by
  unfold receiverBit; (repeat' first | split | dsimp only) <;> simp [h]

@[simp] theorem integrationBit_su (d : Decision) (margin : Nat) {s : State} (h : s.su.bounded) :
    (integrationBit d margin s).su.bounded := by
  have hb := h
  simp only [StreamUnit.bounded] at hb
  unfold integrationBit
  (repeat' first | split | dsimp only) <;> first | exact h | (simp_all; done) | (simp_all; omega) | ((repeat' first | exact h | apply enterOnline_su) <;> first | simp_all; done | (simp_all; omega))

@[simp] theorem bitDecided_su (d : Decision) (margin : Nat) {s : State} (h : s.su.bounded) :
    (bitDecided d margin s).su.bounded := by
  unfold bitDecided; (repeat' first | split | dsimp only) <;> simp [h]

@[simp] theorem expireHold_su {s : State} (h : s.su.bounded) : (expireHold s).su.bounded := by
  unfold expireHold; (repeat' first | split | dsimp only) <;> simp [h]

@[simp] theorem requestBreak_su {s : State} (h : s.su.bounded) : (requestBreak s).su.bounded := by
  have hb := h
  simp only [StreamUnit.bounded] at hb
  unfold requestBreak
  (repeat' first | split | dsimp only) <;> first | exact h | (simp_all; done) | (simp_all; omega) | ((repeat' first | exact h | apply boundary_su) <;> first | simp_all; done | (simp_all; omega))

@[simp] theorem keyBreak_su {s : State} (h : s.su.bounded) : (keyBreak s).su.bounded := by
  unfold keyBreak; (repeat' first | split | dsimp only) <;> simp [h]

@[simp] theorem enqueueKey_su (c : Byte) {s : State} (h : s.su.bounded) : (enqueueKey c s).su.bounded := by
  have hb := h
  simp only [StreamUnit.bounded] at hb
  unfold enqueueKey
  (repeat' first | split | dsimp only) <;> first | exact h | (simp_all; done) | (simp_all; omega) | ((repeat' first | exact h | apply boundary_su) <;> first | simp_all; done | (simp_all; omega))

@[simp] theorem handCharacter_su (v : Byte) {s : State} (h : s.su.bounded) : (handCharacter v s).su.bounded := by
  unfold handCharacter; (repeat' first | split | dsimp only) <;> simp [h]

@[simp] theorem directAction_su (v : Byte) {s : State} (h : s.su.bounded) : (directAction v s).su.bounded := by
  unfold directAction; (repeat' first | split | dsimp only) <;> simp [h]

@[simp] theorem actOnEvent_su (e : KeyEvent) (v : Byte) {s : State} (h : s.su.bounded) :
    (actOnEvent e v s).su.bounded := by
  unfold actOnEvent; (repeat' first | split | dsimp only) <;> simp [h]

@[simp] theorem landKeymap_su {s : State} (h : s.su.bounded) : (landKeymap s).su.bounded := by
  unfold landKeymap; (repeat' first | split | dsimp only) <;> simp [h]

@[simp] theorem grantKs_su {s : State} (h : s.su.bounded) : (grantKs s).su.bounded := by
  unfold grantKs; (repeat' first | split | dsimp only) <;> simp [h]

@[simp] theorem indexWork_su {s : State} (h : s.su.bounded) : (indexWork s).su.bounded := by
  unfold indexWork; (repeat' first | split | dsimp only) <;> simp [h]

@[simp] theorem endStandby_su {s : State} (h : s.su.bounded) : (endStandby s).su.bounded := by
  unfold endStandby; (repeat' first | split | dsimp only) <;> simp [h]

@[simp] theorem wakeBy_su (waking : Nat) (closed : BitVec 80) {s : State} (h : s.su.bounded) :
    (wakeBy waking closed s).su.bounded := by
  unfold wakeBy; (repeat' first | split | dsimp only) <;> simp [h]

@[simp] theorem wakeScan_su (closed : BitVec 80) {s : State} (h : s.su.bounded) : (wakeScan closed s).su.bounded := by
  have hb := h
  simp only [StreamUnit.bounded] at hb
  unfold wakeScan
  (repeat' first | split | dsimp only) <;> first | exact h | (simp_all; done) | (simp_all; omega) | ((repeat' first | exact h | apply wakeBy_su) <;> first | simp_all; done | (simp_all; omega))

@[simp] theorem softResetEffect_su {s : State} (h : s.su.bounded) : (softResetEffect s).su.bounded := by
  simp only [StreamUnit.bounded] at h
  simp [softResetEffect, StreamUnit.afterReset, h]

@[simp] theorem confirmableEffect_su (p : PendingCommand) {s : State} (h : s.su.bounded) :
    (confirmableEffect p s).su.bounded := by
  unfold confirmableEffect; (repeat' first | split | dsimp only) <;> simp [h]

@[simp] theorem takeConfirm_su {s : State} (h : s.su.bounded) : (takeConfirm s).2.su.bounded := by
  unfold takeConfirm; (repeat' first | split | dsimp only) <;> simp [h]

@[simp] theorem disconnectEffect_su {s : State} (h : s.su.bounded) : (disconnectEffect s).su.bounded := by
  unfold disconnectEffect; (repeat' first | split | dsimp only) <;> simp [h]

@[simp] theorem takeSendBreak_su {s : State} (h : s.su.bounded) : (takeSendBreak s).2.su.bounded := by
  unfold takeSendBreak; (repeat' first | split | dsimp only) <;> simp [h]

@[simp] theorem ringsResetEffect_su {s : State} (h : s.su.bounded) : (ringsResetEffect s).su.bounded := by
  simp only [StreamUnit.bounded] at h
  simp [ringsResetEffect, StreamUnit.afterReset, h]

@[simp] theorem takeRingsReset_su {s : State} (h : s.su.bounded) : (takeRingsReset s).2.su.bounded := by
  unfold takeRingsReset; (repeat' first | split | dsimp only) <;> simp [h]

@[simp] theorem wakeEffect_su {s : State} (h : s.su.bounded) : (wakeEffect s).su.bounded := by
  unfold wakeEffect; (repeat' first | split | dsimp only) <;> simp [h]

@[simp] theorem runCommand_su (c : Command) {s : State} (h : s.su.bounded) : (runCommand c s).2.su.bounded := by
  unfold runCommand; (repeat' first | split | dsimp only) <;> simp [h]

@[simp] theorem decideAnswer_su (code : Byte) {s : State} (h : s.su.bounded) : (decideAnswer code s).2.su.bounded := by
  unfold decideAnswer; (repeat' first | split | dsimp only) <;> simp [h]

@[simp] theorem takeCommand_su (code : Byte) {s : State} (h : s.su.bounded) : (takeCommand code s).su.bounded := by
  unfold takeCommand; (repeat' first | split | dsimp only) <;> simp [h]

@[simp] theorem takeSetting_su (reg : SettingReg) (v : Byte) {s : State} (h : s.su.bounded) :
    (takeSetting reg v s).su.bounded := by
  have hb := h
  simp only [StreamUnit.bounded] at hb
  unfold takeSetting
  (repeat' first | split | dsimp only) <;> first | exact h | (simp_all; done) | (simp_all; omega) | ((repeat' first | exact h | apply expireHold_su) <;> first | simp_all; done | (simp_all; omega))

@[simp] theorem actOnProducer_su (reg : ProducerIndex) {s : State} (h : s.su.bounded) :
    (actOnProducer reg s).su.bounded := by
  unfold actOnProducer; (repeat' first | split | dsimp only) <;> simp [h]

@[simp] theorem takeProducer_su (reg : ProducerIndex) (v : Byte) {s : State} (h : s.su.bounded) :
    (takeProducer reg v s).su.bounded := by
  unfold takeProducer; (repeat' first | split | dsimp only) <;> simp [h]

@[simp] theorem actOnConsumer_su (reg : ConsumerIndex) {s : State} (h : s.su.bounded) :
    (actOnConsumer reg s).su.bounded := by
  unfold actOnConsumer; (repeat' first | split | dsimp only) <;> simp [h]

@[simp] theorem takeConsumer_su (reg : ConsumerIndex) (v : Byte) {s : State} (h : s.su.bounded) :
    (takeConsumer reg v s).su.bounded := by
  unfold takeConsumer; (repeat' first | split | dsimp only) <;> simp [h]

@[simp] theorem snoopSetup_su (offset : Nat) (v : Byte) {s : State} (h : s.su.bounded) :
    (snoopSetup offset v s).su.bounded := by
  unfold snoopSetup; (repeat' first | split | dsimp only) <;> simp [h]

@[simp] theorem snoop_su (offset : Nat) (v : Byte) {s : State} (h : s.su.bounded) : (snoop offset v s).su.bounded := by
  unfold snoop; (repeat' first | split | dsimp only) <;> simp [h]

@[simp] theorem deliverWrite_su (a : Addr) (v : Byte) {s : State} (h : s.su.bounded) :
    (deliverWrite a v s).su.bounded := by
  unfold deliverWrite; (repeat' first | split | dsimp only) <;> simp [h]

@[simp] theorem hostGrant_su (x : HostAccess) {s : State} (h : s.su.bounded) : (hostGrant x s).su.bounded := by
  unfold hostGrant; (repeat' first | split | dsimp only) <;> simp [h]

@[simp] theorem grantEffect_su (r : Requester) {s : State} (h : s.su.bounded) : (grantEffect r s).su.bounded := by
  unfold grantEffect; (repeat' first | split | dsimp only) <;> simp [h]

@[simp] theorem grantTo_su (r : Requester) {s : State} (h : s.su.bounded) : (grantTo r s).su.bounded := by
  unfold grantTo; (repeat' first | split | dsimp only) <;> simp [h]

@[simp] theorem grantInternal_su {s : State} (h : s.su.bounded) : (grantInternal s).su.bounded := by
  unfold grantInternal; (repeat' first | split | dsimp only) <;> simp [h]

@[simp] theorem serveWaiting_su (x : HostAccess) {s : State} (h : s.su.bounded) : (serveWaiting x s).su.bounded := by
  unfold serveWaiting; (repeat' first | split | dsimp only) <;> simp [h]

@[simp] theorem hostServe_su (x : HostAccess) {s : State} (h : s.su.bounded) : (hostServe x s).su.bounded := by
  unfold hostServe; split
  · exact serveWaiting_su x (by simpa using h)
  · exact serveWaiting_su x h

@[simp] theorem afterPowerOnReset_su (straps : BitVec 2) {s : State} (h : s.su.bounded) : (afterPowerOnReset straps s).su.bounded := by
  simp only [StreamUnit.bounded] at h
  simp [afterPowerOnReset, StreamUnit.afterReset, h]

@[simp] theorem afterResetLine_su {s : State} (h : s.su.bounded) : (afterResetLine s).su.bounded := by
  simp only [StreamUnit.bounded] at h
  simp [afterResetLine, StreamUnit.afterReset, h]

@[simp] theorem serveAll_su (l : List HostAccess) {s : State} (h : s.su.bounded) : (serveAll l s).su.bounded := by
  induction l generalizing s with
  | nil => exact h
  | cons x rest ih => exact ih (serveWaiting_su x h)

@[simp] theorem listenRunOut_su {s : State} (h : s.su.bounded) : (listenRunOut s).su.bounded := by
  unfold listenRunOut; (repeat' first | split | dsimp only) <;> simp [h]

@[simp] theorem lossHoldRunOut_su {s : State} (h : s.su.bounded) : (lossHoldRunOut s).su.bounded := by
  unfold lossHoldRunOut; (repeat' first | split | dsimp only) <;> simp [h]

@[simp] theorem operationDone_su {s : State} (h : s.su.bounded) : (operationDone s).su.bounded := by
  have hb := h
  simp only [StreamUnit.bounded] at hb
  unfold operationDone
  (repeat' first | split | dsimp only) <;> first | exact h | (simp_all; done) | (simp_all; omega) | ((repeat' first | exact h | apply boundary_su) <;> first | simp_all; done | (simp_all; omega))

end Sys2Proof.Machine
end

