-- ==== Sys2Proof/Laws/KeepsStrobe.lean ====
section
/-! SUPPORT. Every operation keeps SP within its bounds; a plan made by SP keeps to its allowance. -/

set_option linter.unusedTactic false
set_option linter.unreachableTactic false
set_option linter.unnecessarySeqFocus false
set_option linter.unusedSimpArgs false

namespace Sys2Proof.Machine

open Sys2Proof

@[simp] theorem strobeBounds_mk (x0 : Option Plan) (x1 : List Pulse) (x2 : Timer) (x3 : List Nat) (x4 : Image) :
    StrobePlanner.bounded ⟨x0, x1, x2, x3, x4⟩ ↔ (x2 = none → x3 = []) ∧ ∀ q, x0 = some q → q.withinAllowance :=
    Iff.rfl

theorem onDots_le (b : Byte) : onDots b ≤ 8 := by
  unfold onDots
  exact le_trans List.countP_le_length (by simp)

theorem onDots_sum_le (l : List Byte) : (l.map onDots).sum ≤ 8 * l.length := by
  induction l with
  | nil => simp
  | cons b rest ih => have := onDots_le b; simp; omega

/-- A segment has at most 72 on-dots (R159). -/
theorem countSegment_on_le (image : Image) (d : HistoryImage) (i : Nat) : (countSegment image d i).on ≤ 72 := by
  have h := onDots_sum_le (segmentBytes image i)
  have : (segmentBytes image i).length ≤ 9 := by simp [segmentBytes]
  simp only [countSegment]
  omega

/-- The allowance is never below 72 (R158). -/
theorem allowance_ge (v : Nat) (q : Bool) : 72 ≤ allowance v q := by
  unfold allowance
  dsimp only
  split <;> (repeat' split) <;> omega

/-- Each phase planned keeps to the allowance (R160). -/
theorem placeSegments_le {a : Nat} {f : Nat → Nat} (cs : List SegmentCount) (phase : List Nat) (total : Nat)
    (hf : ∀ c ∈ cs, c.on = f c.segment ∧ c.on ≤ a) (ht : (phase.map f).sum = total) (hle : total ≤ a) :
    ∀ q ∈ placeSegments a cs phase total, (q.map f).sum ≤ a := by
  induction cs generalizing phase total with
  | nil => cases phase <;> simp_all [placeSegments]
  | cons c rest ih =>
    have hc := hf c (by simp)
    have hr : ∀ c ∈ rest, c.on = f c.segment ∧ c.on ≤ a := fun x hx => hf x (by simp [hx])
    unfold placeSegments
    split
    · exact ih phase total hr ht hle
    · split
      · exact ih _ _ hr (by simp [hc.1]) hc.2
      · split
        · rename_i h2
          exact ih _ _ hr (by rw [List.map_append, List.sum_append, ht]; simp [hc.1]) h2
        · intro q hq
          rcases List.mem_cons.mp hq with e | hq
          · rw [e, ht]; exact hle
          · exact ih _ _ hr (by simp [hc.1]) hc.2 q hq

/-- A plan made by SP keeps to its allowance (R160). -/
theorem makePlan_withinAllowance (s : State) (r : RowRecord) (d : HistoryImage) :
    (makePlan s r d).withinAllowance := by
  refine ⟨allowance_ge _ _, fun phase hp => ?_⟩
  have hle := placeSegments_le (a := (makePlan s r d).allowance)
    (f := fun i => (countSegment s.ps.latchImage d i).on)
    (makePlan s r d).counts [] 0
    (fun c hc => by
      obtain ⟨i, _, e⟩ := List.mem_map.mp hc
      subst e
      exact ⟨rfl, le_trans (countSegment_on_le _ _ _) (allowance_ge _ _)⟩)
    rfl (Nat.zero_le _) phase hp
  refine le_trans ?_ hle
  apply List.sum_le_sum
  intro i _
  unfold Plan.dots
  split
  · exact Nat.zero_le _
  · rename_i c e
    have hs : c.segment = i := by simpa using List.find?_some e
    obtain ⟨j, _, e2⟩ := List.mem_map.mp (List.mem_of_find?_eq_some e)
    subst e2
    have : j = i := hs
    subst this
    exact le_refl _

@[simp] theorem strobesOff_sp {s : State} (h : s.sp.bounded) : (strobesOff s).sp.bounded := by
  have hb := h
  simp only [StrobePlanner.bounded] at hb
  unfold strobesOff; (repeat' first | split | dsimp only) <;> simp_all

@[simp] theorem discardPlan_sp {s : State} (h : s.sp.bounded) : (discardPlan s).sp.bounded := by
  have hb := h
  simp only [StrobePlanner.bounded] at hb
  unfold discardPlan; (repeat' first | split | dsimp only) <;> simp_all

@[simp] theorem cancelWaits_sp {s : State} (h : s.sp.bounded) : (cancelWaits s).sp.bounded := by
  unfold cancelWaits; (repeat' first | split | dsimp only) <;> simp [h]

@[simp] theorem cancelEffect_sp {s : State} (h : s.sp.bounded) : (cancelEffect s).sp.bounded := by
  unfold cancelEffect; (repeat' first | split | dsimp only) <;> simp [h]

@[simp] theorem enterHeld_sp (point : HeldPoint) {s : State} (h : s.sp.bounded) : (enterHeld point s).sp.bounded := by
  unfold enterHeld; (repeat' first | split | dsimp only) <;> simp [h]

@[simp] theorem enterBatteryHold_sp (atStart : Bool) {s : State} (h : s.sp.bounded) :
    (enterBatteryHold atStart s).sp.bounded := by
  unfold enterBatteryHold; (repeat' first | split | dsimp only) <;> simp [h]

@[simp] theorem enterHotHalt_sp {s : State} (h : s.sp.bounded) : (enterHotHalt s).sp.bounded := by
  unfold enterHotHalt; (repeat' first | split | dsimp only) <;> simp [h]

theorem burnPhase_sp (p : Plan) (r : RowRecord) {s : State} (h : s.sp.bounded) (hp : p.withinAllowance) :
    (burnPhase p r s).sp.bounded := by
  have hb := h
  simp only [StrobePlanner.bounded] at hb
  unfold burnPhase
  simp
  exact hp

theorem startPhase_sp (p : Plan) (r : RowRecord) {s : State} (h : s.sp.bounded) (hp : p.withinAllowance) :
    (startPhase p r s).sp.bounded := by
  have hb := h
  simp only [StrobePlanner.bounded] at hb
  unfold startPhase
  split
  · apply enterHotHalt_sp; simp [hb]; exact ⟨hb.1, hp⟩
  · exact burnPhase_sp p r h hp

@[simp] theorem planPoint_sp {s : State} (h : s.sp.bounded) :
    (planPoint s).sp.bounded := by
  have hb := h
  simp only [StrobePlanner.bounded] at hb
  unfold planPoint
  split
  · exact h
  · split
    · exact enterHeld_sp _ h
    · dsimp only
      split
      · simp
        exact ⟨hb.1, makePlan_withinAllowance _ _ _⟩
      · apply startPhase_sp
        · simpa using h
        · exact makePlan_withinAllowance _ _ _

@[simp] theorem warnCheck_sp {s : State} (h : s.sp.bounded) : (warnCheck s).sp.bounded := by
  unfold warnCheck; (repeat' first | split | dsimp only) <;> simp [h]

@[simp] theorem startBurnRow_sp (darkness : Option Nat) {s : State} (h : s.sp.bounded) :
    (startBurnRow darkness s).sp.bounded := by
  unfold startBurnRow; (repeat' first | split | dsimp only) <;> simp [h]

@[simp] theorem startLatchRow_sp {s : State} (h : s.sp.bounded) : (startLatchRow s).sp.bounded := by
  unfold startLatchRow; (repeat' first | split | dsimp only) <;> simp [h]

@[simp] theorem resumeRow_sp {s : State} (h : s.sp.bounded) : (resumeRow s).sp.bounded := by
  unfold resumeRow; (repeat' first | split | dsimp only) <;> simp [h]

@[simp] theorem needCache_sp {s : State} (h : s.sp.bounded) : (needCache s).sp.bounded := by
  unfold needCache; (repeat' first | split | dsimp only) <;> simp [h]

@[simp] theorem nextRow_sp {s : State} (h : s.sp.bounded) : (nextRow s).sp.bounded := by
  unfold nextRow; (repeat' first | split | dsimp only) <;> simp [h]

@[simp] theorem cacheChanged_sp {s : State} (h : s.sp.bounded) : (cacheChanged s).sp.bounded := by
  unfold cacheChanged; (repeat' first | split | dsimp only) <;> simp [h]

@[simp] theorem closeRow_sp {s : State} (h : s.sp.bounded) : (closeRow s).sp.bounded := by
  have hb := h
  simp only [StrobePlanner.bounded] at hb
  unfold closeRow
  (repeat' first | split | dsimp only) <;> first | exact h | (simp_all; done) | (simp_all; omega) | ((repeat' first | exact h | apply discardPlan_sp) <;> first | simp_all; done | (simp_all; omega))

@[simp] theorem rowEnd_sp {s : State} (h : s.sp.bounded) : (rowEnd s).sp.bounded := by
  unfold rowEnd; (repeat' first | split | dsimp only) <;> simp [h]

@[simp] theorem setHold_sp {s : State} (h : s.sp.bounded) : (setHold s).sp.bounded := by
  have hb := h
  simp only [StrobePlanner.bounded] at hb
  unfold setHold
  (repeat' first | split | dsimp only) <;> first | exact h | (simp_all; done) | (simp_all; omega) | ((repeat' first | exact h | apply enterHeld_sp) <;> first | simp_all; done | (simp_all; omega))

@[simp] theorem clearHold_sp {s : State} (h : s.sp.bounded) : (clearHold s).sp.bounded := by
  have hb := h
  simp only [StrobePlanner.bounded] at hb
  unfold clearHold
  (repeat' first | split | dsimp only) <;> first | exact h | (simp_all; done) | (simp_all; omega) | ((repeat' first | exact h | apply nextRow_sp | apply resumeRow_sp) <;> first | simp_all; done | (simp_all; omega))

@[simp] theorem toggleHold_sp {s : State} (h : s.sp.bounded) : (toggleHold s).sp.bounded := by
  unfold toggleHold; (repeat' first | split | dsimp only) <;> simp [h]

@[simp] theorem requestCancel_sp {s : State} (h : s.sp.bounded) : (requestCancel s).sp.bounded := by
  have hb := h
  simp only [StrobePlanner.bounded] at hb
  unfold requestCancel
  (repeat' first | split | dsimp only) <;> first | exact h | (simp_all; done) | (simp_all; omega) | ((repeat' first | exact h | apply cancelEffect_sp) <;> first | simp_all; done | (simp_all; omega))

@[simp] theorem idleWork_sp {s : State} (h : s.sp.bounded) : (idleWork s).sp.bounded := by
  unfold idleWork; (repeat' first | split | dsimp only) <;> simp [h]

@[simp] theorem acknowledgeDescError_sp {s : State} (h : s.sp.bounded) : (acknowledgeDescError s).sp.bounded := by
  unfold acknowledgeDescError; (repeat' first | split | dsimp only) <;> simp [h]

@[simp] theorem endStandbyPrint_sp {s : State} (h : s.sp.bounded) : (endStandbyPrint s).sp.bounded := by
  unfold endStandbyPrint; (repeat' first | split | dsimp only) <;> simp [h]

@[simp] theorem endHalt_sp {s : State} (h : s.sp.bounded) : (endHalt s).sp.bounded := by
  unfold endHalt; (repeat' first | split | dsimp only) <;> simp [h]

@[simp] theorem endPacing_sp {s : State} (h : s.sp.bounded) : (endPacing s).sp.bounded := by
  unfold endPacing; (repeat' first | split | dsimp only) <;> simp [h]

@[simp] theorem endBatteryHold_sp {s : State} (h : s.sp.bounded) : (endBatteryHold s).sp.bounded := by
  unfold endBatteryHold; (repeat' first | split | dsimp only) <;> simp [h]

@[simp] theorem acknowledgeHotStop_sp (relatched : Bool) {s : State} (h : s.sp.bounded) :
    (acknowledgeHotStop relatched s).sp.bounded := by
  unfold acknowledgeHotStop; (repeat' first | split | dsimp only) <;> simp [h]

@[simp] theorem judgeTick_sp {s : State} (h : s.sp.bounded) : (judgeTick s).sp.bounded := by
  unfold judgeTick; (repeat' first | split | dsimp only) <;> simp [h]

@[simp] theorem directAction_sp (v : Byte) {s : State} (h : s.sp.bounded) : (directAction v s).sp.bounded := by
  unfold directAction; (repeat' first | split | dsimp only) <;> simp [h]

@[simp] theorem actOnEvent_sp (e : KeyEvent) (v : Byte) {s : State} (h : s.sp.bounded) :
    (actOnEvent e v s).sp.bounded := by
  unfold actOnEvent; (repeat' first | split | dsimp only) <;> simp [h]

@[simp] theorem landKeymap_sp {s : State} (h : s.sp.bounded) : (landKeymap s).sp.bounded := by
  unfold landKeymap; (repeat' first | split | dsimp only) <;> simp [h]

@[simp] theorem grantKs_sp {s : State} (h : s.sp.bounded) : (grantKs s).sp.bounded := by
  unfold grantKs; (repeat' first | split | dsimp only) <;> simp [h]

@[simp] theorem indexWork_sp {s : State} (h : s.sp.bounded) : (indexWork s).sp.bounded := by
  unfold indexWork; (repeat' first | split | dsimp only) <;> simp [h]

@[simp] theorem endStandby_sp {s : State} (h : s.sp.bounded) : (endStandby s).sp.bounded := by
  unfold endStandby; (repeat' first | split | dsimp only) <;> simp [h]

@[simp] theorem wakeBy_sp (waking : Nat) (closed : BitVec 80) {s : State} (h : s.sp.bounded) :
    (wakeBy waking closed s).sp.bounded := by
  unfold wakeBy; (repeat' first | split | dsimp only) <;> simp [h]

@[simp] theorem wakeScan_sp (closed : BitVec 80) {s : State} (h : s.sp.bounded) : (wakeScan closed s).sp.bounded := by
  have hb := h
  simp only [StrobePlanner.bounded] at hb
  unfold wakeScan
  (repeat' first | split | dsimp only) <;> first | exact h | (simp_all; done) | (simp_all; omega) | ((repeat' first | exact h | apply wakeBy_sp) <;> first | simp_all; done | (simp_all; omega))

@[simp] theorem softResetEffect_sp {s : State} (h : s.sp.bounded) :
    (softResetEffect s).sp.bounded := by
  have hb := h
  simp only [StrobePlanner.bounded] at hb
  simp [softResetEffect, StrobePlanner.afterReset]

@[simp] theorem confirmableEffect_sp (p : PendingCommand) {s : State} (h : s.sp.bounded) :
    (confirmableEffect p s).sp.bounded := by
  unfold confirmableEffect; (repeat' first | split | dsimp only) <;> simp [h]

@[simp] theorem takeConfirm_sp {s : State} (h : s.sp.bounded) : (takeConfirm s).2.sp.bounded := by
  unfold takeConfirm; (repeat' first | split | dsimp only) <;> simp [h]

@[simp] theorem printHoldEffect_sp {s : State} (h : s.sp.bounded) : (printHoldEffect s).sp.bounded := by
  unfold printHoldEffect; (repeat' first | split | dsimp only) <;> simp [h]

@[simp] theorem printResumeEffect_sp {s : State} (h : s.sp.bounded) : (printResumeEffect s).sp.bounded := by
  unfold printResumeEffect; (repeat' first | split | dsimp only) <;> simp [h]

@[simp] theorem reportDescError_sp (lo : Byte) {s : State} (h : s.sp.bounded) : (reportDescError lo s).sp.bounded := by
  unfold reportDescError; (repeat' first | split | dsimp only) <;> simp [h]

@[simp] theorem reportHotStop_sp (hi : Byte) (again : Bool) {s : State} (h : s.sp.bounded) :
    (reportHotStop hi again s).sp.bounded := by
  unfold reportHotStop; (repeat' first | split | dsimp only) <;> simp [h]

@[simp] theorem acknowledge_sp (lo hi : Byte) {s : State} (h : s.sp.bounded) : (acknowledge lo hi s).sp.bounded := by
  unfold acknowledge; (repeat' first | split | dsimp only) <;> simp [h]

@[simp] theorem acknowledgeWord_sp (word : FlagWord) (mask : Byte) {s : State} (h : s.sp.bounded) :
    (acknowledgeWord word mask s).sp.bounded := by
  unfold acknowledgeWord; (repeat' first | split | dsimp only) <;> simp [h]

@[simp] theorem wakeEffect_sp {s : State} (h : s.sp.bounded) : (wakeEffect s).sp.bounded := by
  unfold wakeEffect; (repeat' first | split | dsimp only) <;> simp [h]

@[simp] theorem runCommand_sp (c : Command) {s : State} (h : s.sp.bounded) : (runCommand c s).2.sp.bounded := by
  unfold runCommand; (repeat' first | split | dsimp only) <;> simp [h]

@[simp] theorem decideAnswer_sp (code : Byte) {s : State} (h : s.sp.bounded) : (decideAnswer code s).2.sp.bounded := by
  unfold decideAnswer; (repeat' first | split | dsimp only) <;> simp [h]

@[simp] theorem takeCommand_sp (code : Byte) {s : State} (h : s.sp.bounded) : (takeCommand code s).sp.bounded := by
  unfold takeCommand; (repeat' first | split | dsimp only) <;> simp [h]

@[simp] theorem snoop_sp (offset : Nat) (v : Byte) {s : State} (h : s.sp.bounded) : (snoop offset v s).sp.bounded := by
  unfold snoop; (repeat' first | split | dsimp only) <;> simp [h]

@[simp] theorem deliverWrite_sp (a : Addr) (v : Byte) {s : State} (h : s.sp.bounded) :
    (deliverWrite a v s).sp.bounded := by
  unfold deliverWrite; (repeat' first | split | dsimp only) <;> simp [h]

@[simp] theorem hostGrant_sp (x : HostAccess) {s : State} (h : s.sp.bounded) : (hostGrant x s).sp.bounded := by
  unfold hostGrant; (repeat' first | split | dsimp only) <;> simp [h]

@[simp] theorem landDescriptorByte_sp (v : Byte) {s : State} (h : s.sp.bounded) :
    (landDescriptorByte v s).sp.bounded := by
  have hb := h
  simp only [StrobePlanner.bounded] at hb
  unfold landDescriptorByte
  (repeat' first | split | dsimp only) <;> first | exact h | (simp_all; done) | (simp_all; omega) | ((repeat' first | exact h | apply cacheChanged_sp) <;> first | simp_all; done | (simp_all; omega))

@[simp] theorem landImageByte_sp (v : Byte) {s : State} (h : s.sp.bounded) : (landImageByte v s).sp.bounded := by
  have hb := h
  simp only [StrobePlanner.bounded] at hb
  unfold landImageByte
  (repeat' first | split | dsimp only) <;> first | exact h | (simp_all; done) | (simp_all; omega) | ((repeat' first | exact h | apply cacheChanged_sp) <;> first | simp_all; done | (simp_all; omega))

@[simp] theorem grantPs_sp {s : State} (h : s.sp.bounded) : (grantPs s).sp.bounded := by
  unfold grantPs; (repeat' first | split | dsimp only) <;> simp [h]

@[simp] theorem grantEffect_sp (r : Requester) {s : State} (h : s.sp.bounded) : (grantEffect r s).sp.bounded := by
  unfold grantEffect; (repeat' first | split | dsimp only) <;> simp [h]

@[simp] theorem grantTo_sp (r : Requester) {s : State} (h : s.sp.bounded) : (grantTo r s).sp.bounded := by
  unfold grantTo; (repeat' first | split | dsimp only) <;> simp [h]

@[simp] theorem grantInternal_sp {s : State} (h : s.sp.bounded) : (grantInternal s).sp.bounded := by
  unfold grantInternal; (repeat' first | split | dsimp only) <;> simp [h]

@[simp] theorem serveWaiting_sp (x : HostAccess) {s : State} (h : s.sp.bounded) : (serveWaiting x s).sp.bounded := by
  unfold serveWaiting; (repeat' first | split | dsimp only) <;> simp [h]

@[simp] theorem hostServe_sp (x : HostAccess) {s : State} (h : s.sp.bounded) : (hostServe x s).sp.bounded := by
  unfold hostServe; split
  · exact serveWaiting_sp x (by simpa using h)
  · exact serveWaiting_sp x h

@[simp] theorem afterPowerOnReset_sp (straps : BitVec 2) {s : State} (h : s.sp.bounded) :
    (afterPowerOnReset straps s).sp.bounded := by
  have hb := h
  simp only [StrobePlanner.bounded] at hb
  simp [afterPowerOnReset, StrobePlanner.afterReset]

@[simp] theorem afterResetLine_sp {s : State} (h : s.sp.bounded) :
    (afterResetLine s).sp.bounded := by
  have hb := h
  simp only [StrobePlanner.bounded] at hb
  simp [afterResetLine, StrobePlanner.afterReset]

@[simp] theorem serveAll_sp (l : List HostAccess) {s : State} (h : s.sp.bounded) : (serveAll l s).sp.bounded := by
  induction l generalizing s with
  | nil => exact h
  | cons x rest ih => exact ih (serveWaiting_sp x h)

@[simp] theorem endHeldDots_sp (segment : Nat) {s : State} (h : s.sp.bounded) : (endHeldDots segment s).sp.bounded := by
  have hb := h
  simp only [StrobePlanner.bounded] at hb
  unfold endHeldDots; (repeat' first | split | dsimp only) <;> simp_all

@[simp] theorem endStrobe_sp (segment : Nat) {s : State} (h : s.sp.bounded) : (endStrobe segment s).sp.bounded := by
  have hb := h
  simp only [StrobePlanner.bounded] at hb
  unfold endStrobe; (repeat' first | split | dsimp only) <;> simp_all

theorem afterPhase_sp (p : Plan) (r : RowRecord) {s : State} (h : s.sp.bounded) (hp : p.withinAllowance) :
    (afterPhase p r s).sp.bounded := by
  have hb := h
  simp only [StrobePlanner.bounded] at hb
  unfold afterPhase
  split
  · split
    · exact enterHeld_sp _ h
    · exact startPhase_sp _ r h hp
  · simpa using h

@[simp] theorem endPhase_sp {s : State} (h : s.sp.bounded) :
    (endPhase s).sp.bounded := by
  have hb := h
  simp only [StrobePlanner.bounded] at hb
  unfold endPhase
  dsimp only
  split
  · rename_i p r e1 e2
    apply afterPhase_sp _ _ _ (hb.2 p e1)
    have : (strobesOff (heatPhase p s)).sp.bounded := by
      apply strobesOff_sp; simpa using h
    simpa using this
  · exact h

@[simp] theorem stepDone_sp {s : State} (h : s.sp.bounded) : (stepDone s).sp.bounded := by
  have hb := h
  simp only [StrobePlanner.bounded] at hb
  unfold stepDone
  (repeat' first | split | dsimp only) <;> first | exact h | (simp_all; done) | (simp_all; omega) | ((repeat' first | exact h | apply rowEnd_sp) <;> first | simp_all; done | (simp_all; omega))

@[simp] theorem tick_sp {s : State} (h : s.sp.bounded) : (tick s).sp.bounded := by
  unfold tick; (repeat' first | split | dsimp only) <;> simp [h]

@[simp] theorem timedReading_sp {s : State} (h : s.sp.bounded) : (timedReading s).sp.bounded := by
  unfold timedReading; (repeat' first | split | dsimp only) <;> simp [h]

end Sys2Proof.Machine
end

