-- ==== Sys2Proof/Laws/PerInstr.lean ====
section
/-! SUPPORT. What holds of every row of the table, row by row: a command is well formed, but for UNKNOWN with a code that is 0 or
a code of the command table (R22, R25), and a space decision of margin 0, since a tie is a mark (R45). -/

namespace Sys2Proof.Laws.Rows

open Sys2Proof

/-- The row admits the command, or the command is UNKNOWN with a code that is none (0) or another row's, or a decision that calls
a tie a space. -/
def Statement (c : Instr) : Prop :=
  c.wellFormed = true ∨ (∃ code, c = .unknown code ∧ (code = 0 ∨ code ∈ commandCodes))
    ∨ c = .bitDecision .space 0 ∨ c = .frameComplete .space 0

theorem powerOnReset (straps : BitVec 2) : Statement (.powerOnReset straps) := .inl rfl
theorem resetLineAssert : Statement .resetLineAssert := .inl rfl
theorem resetLineRelease (straps : BitVec 2) : Statement (.resetLineRelease straps) := .inl rfl
theorem hostRead (address : Addr) : Statement (.hostRead address) := .inl rfl
theorem hostWrite (address : Addr) (value : Byte) : Statement (.hostWrite address value) := .inl rfl
theorem argWrite (index : Fin 6) (value : Byte) : Statement (.argWrite index value) := .inl rfl
theorem settingWrite (reg : SettingReg) (value : Byte) : Statement (.settingWrite reg value) := .inl rfl
theorem geometryWrite (reg : GeometryReg) (value : Byte) : Statement (.geometryWrite reg value) := .inl rfl
theorem producerIndexWrite (reg : ProducerIndex) (value : Byte) : Statement (.producerIndexWrite reg value) := .inl rfl
theorem consumerIndexWrite (reg : ConsumerIndex) (value : Byte) : Statement (.consumerIndexWrite reg value) := .inl rfl
theorem acknowledge (word : FlagWord) (mask : Byte) : Statement (.acknowledge word mask) := .inl rfl
theorem unknown (code : Byte) : Statement (.unknown code) := by
  by_cases h : code = 0
  · exact .inr (.inl ⟨code, rfl, .inl h⟩)
  · by_cases k : code ∈ commandCodes
    · exact .inr (.inl ⟨code, rfl, .inr k⟩)
    · exact .inl (by simpa [Instr.wellFormed, k] using h)
theorem connect : Statement .connect := .inl rfl
theorem disconnect : Statement .disconnect := .inl rfl
theorem sendBreak : Statement .sendBreak := .inl rfl
theorem printHold : Statement .printHold := .inl rfl
theorem printResume : Statement .printResume := .inl rfl
theorem printCancel : Statement .printCancel := .inl rfl
theorem ringsReset : Statement .ringsReset := .inl rfl
theorem guardSet : Statement .guardSet := .inl rfl
theorem guardOpen : Statement .guardOpen := .inl rfl
theorem guardClose : Statement .guardClose := .inl rfl
theorem guardTight : Statement .guardTight := .inl rfl
theorem confirm : Statement .confirm := .inl rfl
theorem clearAll : Statement .clearAll := .inl rfl
theorem standby : Statement .standby := .inl rfl
theorem wake : Statement .wake := .inl rfl
theorem softReset : Statement .softReset := .inl rfl
theorem statusWriteBackGrant : Statement .statusWriteBackGrant := .inl rfl
theorem partIndexClearGrant : Statement .partIndexClearGrant := .inl rfl
theorem resultWriteBackGrant : Statement .resultWriteBackGrant := .inl rfl
theorem cmdClearGrant : Statement .cmdClearGrant := .inl rfl
theorem carrierPresent : Statement .carrierPresent := .inl rfl
theorem carrierAbsent : Statement .carrierAbsent := .inl rfl
theorem qualifyExpiry : Statement .qualifyExpiry := .inl rfl
theorem listenExpiry : Statement .listenExpiry := .inl rfl
theorem integrationComplete (margin : Fin 16) : Statement (.integrationComplete margin) := .inl rfl
theorem lossHoldExpiry : Statement .lossHoldExpiry := .inl rfl
theorem startEdge : Statement .startEdge := .inl rfl
theorem idleMarkDecision (margin : Fin 16) : Statement (.idleMarkDecision margin) := .inl rfl
theorem frameComplete (decision : Decision) (margin : Fin 16) : Statement (.frameComplete decision margin) := by
  revert decision margin
  unfold Statement
  rintro (_ | _) m
  · exact .inl rfl
  · by_cases h : m = 0
    · exact .inr (.inr (.inr (by rw [h])))
    · exact .inl (by simpa [Instr.wellFormed, Decision.given] using h)
theorem idleRunComplete (margin : Fin 16) : Statement (.idleRunComplete margin) := .inl rfl
theorem breakIn : Statement .breakIn := .inl rfl
theorem candidateCharacter (margin : Fin 16) : Statement (.candidateCharacter margin) := .inl rfl
theorem breakEnd (margin : Fin 16) : Statement (.breakEnd margin) := .inl rfl
theorem holdTimerExpiry : Statement .holdTimerExpiry := .inl rfl
theorem characterOperationComplete : Statement .characterOperationComplete := .inl rfl
theorem breakSpaceEnd : Statement .breakSpaceEnd := .inl rfl
theorem breakTailComplete : Statement .breakTailComplete := .inl rfl
theorem txRingReadGrant : Statement .txRingReadGrant := .inl rfl
theorem txConsWriteGrant : Statement .txConsWriteGrant := .inl rfl
theorem streamByteGrant : Statement .streamByteGrant := .inl rfl
theorem rxProdWriteGrant : Statement .rxProdWriteGrant := .inl rfl
theorem scanPass (closed : BitVec 80) : Statement (.scanPass closed) := .inl rfl
theorem repeatTimerExpiry : Statement .repeatTimerExpiry := .inl rfl
theorem wakePass (closed : BitVec 80) : Statement (.wakePass closed) := .inl rfl
theorem keymapReadGrant : Statement .keymapReadGrant := .inl rfl
theorem keyEventByteGrant : Statement .keyEventByteGrant := .inl rfl
theorem keyProdWriteGrant : Statement .keyProdWriteGrant := .inl rfl
theorem descriptorReadGrant : Statement .descriptorReadGrant := .inl rfl
theorem imageReadGrant : Statement .imageReadGrant := .inl rfl
theorem descriptorResultWriteGrant : Statement .descriptorResultWriteGrant := .inl rfl
theorem pqConsWriteGrant : Statement .pqConsWriteGrant := .inl rfl
theorem heldDotsEnd (segment : Fin 8) : Statement (.heldDotsEnd segment) := .inl rfl
theorem segmentStrobeEnd (segment : Fin 8) : Statement (.segmentStrobeEnd segment) := .inl rfl
theorem phaseEnd : Statement .phaseEnd := .inl rfl
theorem gateWaitExpiry : Statement .gateWaitExpiry := .inl rfl
theorem stepComplete : Statement .stepComplete := .inl rfl
theorem coolingTick : Statement .coolingTick := .inl rfl
theorem pacingTimerExpiry : Statement .pacingTimerExpiry := .inl rfl
theorem readingTimerExpiry : Statement .readingTimerExpiry := .inl rfl
theorem bitDecision (decision : Decision) (margin : Fin 16) : Statement (.bitDecision decision margin) := by
  revert decision margin
  unfold Statement
  rintro (_ | _) m
  · exact .inl rfl
  · by_cases h : m = 0
    · exact .inr (.inr (.inl (by rw [h])))
    · exact .inl (by simpa [Instr.wellFormed, Decision.given] using h)

end Sys2Proof.Laws.Rows
end

