-- ==== Sys2Proof/Laws/Shapes.lean ====
section
/-! SUPPORT. The shapes the meanings are made of, each said once: a conditional event, a timer's expiry, a grant, a host
access; and the bounds of the heat arithmetic. -/

namespace Sys2Proof.Machine

open Sys2Proof

/-- An event whose condition holds. -/
theorem eventWhen_of_ready {ready : Bool} {effect : State → State} {s : State} (h : ready = true) :
    eventWhen ready effect s = .next (settle s (effect s)) := by
  unfold eventWhen; rw [if_pos h]; rfl

/-- An event whose condition fails leaves the state. -/
theorem eventWhen_of_not_ready {ready : Bool} {effect : State → State} {s : State} (h : ready = false) :
    eventWhen ready effect s = .next s := by
  unfold eventWhen; rw [if_neg (by simp [h])]

/-- A stopped timer expires nothing. -/
theorem expiry_of_stopped {timer : Timer} {d : Nat} {effect : State → State} {s : State} (h : timer = none) :
    expiry timer d effect s = .next s := by
  unfold expiry; rw [h]

/-- A running timer expires at its due moment. -/
theorem expiry_of_running {timer : Timer} {start d : Nat} {effect : State → State} {s : State} (h : timer = some start) :
    expiry timer d effect s = .next (settle s (effect (clockTo (start + d) s))) := by
  unfold expiry; rw [h]; rfl

/-- A grant the arbiter gives, of the row's kind. -/
theorem grantWhen_of_chosen {r : Requester} {ready : Bool} {s : State} (h : pick s = some r) (k : ready = true) :
    grantWhen r ready s = .next (grantTo r s) := by
  unfold grantWhen; rw [if_pos ⟨h, k⟩]

/-- A grant the arbiter does not give, or of another kind, leaves the state. -/
theorem grantWhen_of_other {r : Requester} {ready : Bool} {s : State} (h : pick s ≠ some r ∨ ready = false) :
    grantWhen r ready s = .next s := by
  unfold grantWhen; rw [if_neg]
  rintro ⟨a, b⟩
  rcases h with h | h
  · exact h a
  · simp [h] at b

/-- While the reset line is held a host access waits. -/
theorem hostPresent_of_held {x : HostAccess} {s : State} (h : s.mp.resetHeld = true) :
    hostPresent x s = .next (hostWait x s) := by
  unfold hostPresent; rw [if_pos h]

/-- The slot is the host's below a run count of 8, and with no internal access waiting. -/
theorem contended_eq_false_iff {s : State} : contended s = false ↔ s.mp.hostRun < 8 ∨ internalWaiting s = false := by
  unfold contended; simp only [Bool.and_eq_false_iff, decide_eq_false_iff_not, not_le]

/-- Waiting accesses do not decide a slot. -/
@[simp] theorem contended_hostWait (x : HostAccess) (s : State) : contended (hostWait x s) = contended s := rfl

/-- The wait signal stands behind a waiting access. -/
@[simp] theorem waitAsserted_hostWait (x : HostAccess) (s : State) : waitAsserted (hostWait x s) = true := by
  simp [waitAsserted, hostWait]

/-- An access served in a slot that is the host's. -/
theorem serveWaiting_of_turn {x : HostAccess} {s : State} (h : contended s = false) :
    serveWaiting x s = settle s (hostGrant x s) := by
  unfold serveWaiting; simp [h]

/-- An access served behind a slot that goes to the internal side. -/
theorem serveWaiting_of_contended {x : HostAccess} {r : Requester} {s : State} (h : contended s = true)
    (k : pick s = some r) : serveWaiting x s = settle (grantTo r s) (hostGrant x (grantTo r s)) := by
  unfold serveWaiting grantInternal; simp [h, k]

/-- A host access whose turn it is. -/
theorem hostPresent_of_turn {x : HostAccess} {s : State} (h : s.mp.resetHeld = false)
    (k : s.mp.hostRun < 8 ∨ internalWaiting s = false) :
    hostPresent x s = .next (settle s (hostGrant x s)) := by
  have c := contended_eq_false_iff.mpr k
  unfold hostPresent hostServe; simp [h, c, serveWaiting_of_turn c]

/-- A heated estimate stays at or below 1023. -/
theorem heated_le (h gain : Nat) : heated h gain ≤ 1023 := by unfold heated; omega

/-- A cooled estimate is no larger. -/
theorem cooled_le (h : Nat) : cooled h ≤ h := by unfold cooled; split <;> omega

/-- The heat of one segment keeps the number of estimates. -/
theorem heatSegment_length (counts : List SegmentCount) (e : List Nat) (p : Pulse) :
    (heatSegment counts e p).length = e.length := by
  unfold heatSegment; split <;> simp

/-- A tie is a mark, whichever tone it names. -/
@[simp] theorem decisionOf_tie (d : Decision) : decisionOf d 0 = .mark := rfl

/-- The stronger mark is a mark at every margin. -/
@[simp] theorem decisionOf_mark (m : Nat) : decisionOf .mark m = .mark := by unfold decisionOf; split <;> rfl

/-- Without a tie the decision is the stronger tone. -/
theorem decisionOf_of_pos {m : Nat} (h : 0 < m) (d : Decision) : decisionOf d m = d := by
  unfold decisionOf; rw [if_neg (by omega)]

/-- A role hears in the band in which the other role sends. -/
theorem heard_is_the_others_band :
    Role.listenBand .originate = Role.sendBand .answer ∧ Role.listenBand .answer = Role.sendBand .originate := ⟨rfl, rfl⟩

/-- Without a pending cancel nothing takes effect. -/
theorem cancelEffect_of_none {s : State} (h : s.ps.cancel = none) : cancelEffect s = s := by
  unfold cancelEffect; rw [h]

end Sys2Proof.Machine
end

