-- ==== Sys2Proof/Laws/Status.lean ====
section
/-! SUPPORT. The status mirror (R37), offset by offset: the value behind each of the sixteen single offsets and of a window's three,
so that no proof unfolds the whole table. -/

namespace Sys2Proof.Machine

open Sys2Proof

theorem statusValue_flagsLo (s : State) : statusValue s 0x1C = s.cbm.flagsLo.toNat := rfl
theorem statusValue_flagsHi (s : State) : statusValue s 0x1D = s.cbm.flagsHi.toNat := rfl
theorem statusValue_summary (s : State) : statusValue s 0x1E = summary s := rfl
theorem statusValue_lineState (s : State) : statusValue s 0x1F = s.lu.lineState.code := rfl
theorem statusValue_printState (s : State) : statusValue s 0x20 = s.ps.engine.code := rfl
theorem statusValue_quality (s : State) : statusValue s 0x21 = s.lu.qs := rfl
theorem statusValue_supply (s : State) : statusValue s 0x22 = s.sm.supply.getD 0 := rfl
theorem statusValue_headTemp (s : State) : statusValue s 0x23 = (BitVec.ofInt 8 s.headTemp).toNat := rfl
theorem statusValue_hottest (s : State) : statusValue s 0x24 = s.hottest := rfl
theorem statusValue_guardHits (s : State) : statusValue s 0x25 = s.mp.guardHits := rfl
theorem statusValue_guardFirst_low (s : State) : statusValue s 0x26 = s.mp.guardFirst.toNat := rfl
theorem statusValue_guardFirst_high (s : State) : statusValue s 0x27 = s.mp.guardFirst.toNat := rfl
theorem statusValue_lostTotal_low (s : State) : statusValue s 0x28 = s.su.lostTotal := rfl
theorem statusValue_lostTotal_high (s : State) : statusValue s 0x29 = s.su.lostTotal := rfl
theorem statusValue_openPage (s : State) : statusValue s 0x2A = s.mp.openPage.getD 0xFF := rfl
theorem statusValue_tight (s : State) : statusValue s 0x2B = bitVal s.mp.tight 1 := rfl

/-- The three offsets of a window. -/
theorem statusValue_window {s : State} {i : Nat} {w : Window} (h : i < 4) (hw : s.mp.windows[i]? = some w) :
    statusValue s (0x30 + 3 * i) = w.flags ∧ statusValue s (0x31 + 3 * i) = w.lower ∧
      statusValue s (0x32 + 3 * i) = w.upper := by
  have hd : s.mp.windows.getD i clearWindow = w := by rw [List.getD, hw]; rfl
  subst hd
  obtain rfl | rfl | rfl | rfl : i = 0 ∨ i = 1 ∨ i = 2 ∨ i = 3 := by omega
  all_goals exact ⟨rfl, rfl, rfl⟩

/-- The byte of a write-back, off the two high bytes. -/
theorem statusByte_of_low {s : State} {offset : Nat} (h : offset ≠ 0x27) (h' : offset ≠ 0x29) :
    statusByte s offset = byteOf (statusValue s offset) := by
  unfold statusByte; rw [if_neg (by omega)]

/-- The write-back of a high byte. -/
theorem statusByte_of_high {s : State} {offset : Nat} (h : offset = 0x27 ∨ offset = 0x29) :
    statusByte s offset = byteOf (statusValue s offset / 256) := by
  unfold statusByte; rw [if_pos h]

/-- SUMMARY is a byte. -/
theorem summary_lt (s : State) : summary s < 256 := by
  have le : ∀ (b : Bool) (w : Nat), bitVal b w ≤ w := by intro b w; cases b <;> simp [bitVal]
  unfold summary
  refine Nat.lt_of_le_of_lt (m := 1 + 2 + 4 + 8 + 16 + 32 + 64 + 128) ?_ (by decide)
  repeat' apply Nat.add_le_add
  all_goals exact le _ _

/-- HOTTEST is a byte (R174). -/
theorem hottest_lt (s : State) : s.hottest < 256 := by
  unfold State.hottest clampInt; split <;> (try split) <;> omega

end Sys2Proof.Machine
end

