-- ==== Sys2Proof/Laws/Tone.lean ====
section
/-! SUPPORT. The phase of the tone out (R44): it runs by the tone sent in each microsecond between two moments. -/

namespace Sys2Proof.Machine

open Sys2Proof

/-- The moments before the end of bit k are those whose bit is at most k. -/
theorem lt_bitEnd_iff {rate start k t : Nat} (h : 0 < rate) :
    t < bitEnd rate start k ↔ (t - start) * rate / 1000000 ≤ k := by
  unfold bitEnd
  rw [← Nat.lt_succ_iff, Nat.div_lt_iff_lt_mul (by decide : 0 < 1000000)]
  have e : ((k + 1) * 1000000 + (rate - 1)) / rate = ((k + 1) * 1000000 - 1) / rate + 1 := by
    have : (k + 1) * 1000000 + (rate - 1) = ((k + 1) * 1000000 - 1) + rate := by omega
    rw [this, Nat.add_div_right _ h]
  rw [e]
  have q : t - start < ((k + 1) * 1000000 - 1) / rate + 1 ↔ (t - start) * rate ≤ (k + 1) * 1000000 - 1 := by
    rw [Nat.lt_succ_iff, Nat.le_div_iff_mul_le h]
  show t < start + (((k + 1) * 1000000 - 1) / rate + 1) ↔ (t - start) * rate < (k + 1) * 1000000
  generalize ((k + 1) * 1000000 - 1) / rate = c at q ⊢
  generalize (t - start) * rate = p at q ⊢
  omega

/-- A constant added up over a stretch of moments. -/
theorem sum_const (f : Nat → Nat) (c : Nat) : ∀ n a, (∀ k, k < n → f (a + k) = c) →
    ((List.range n).map (fun k => f (a + k))).sum = c * n := by
  intro n
  induction n with
  | zero => simp
  | succ n ih =>
    intro a h
    rw [List.range_succ, List.map_append, List.sum_append, ih a (fun k hk => h k (by omega))]
    simp [h n (by omega), Nat.mul_succ]

/-- A stretch of moments in two parts. -/
theorem sum_split (f : Nat → Nat) (a m n : Nat) :
    ((List.range (m + n)).map (fun k => f (a + k))).sum =
      ((List.range m).map (fun k => f (a + k))).sum + ((List.range n).map (fun k => f (a + m + k))).sum := by
  rw [List.range_add, List.map_append, List.sum_append, List.map_map]
  simp [Function.comp_def, Nat.add_assoc]

/-- One bit and the bits after it. -/
theorem bitsPassed_cons (band : Band) (rate start : Nat) (bit : Bool) (rest : List Bool) (k a b : Nat) :
    bitsPassed band rate start (bit :: rest) k a b =
      band.tone bit * (min b (max a (bitEnd rate start k)) - a) +
        bitsPassed band rate start rest (k + 1) (min b (max a (bitEnd rate start k))) b := rfl

/-- Nothing passes over an empty stretch. -/
theorem bitsPassed_empty (band : Band) (rate start : Nat) (bits : List Bool) :
    ∀ (k : Nat) {a b : Nat}, b ≤ a → bitsPassed band rate start bits k a b = 0 := by
  induction bits with
  | nil => intro k a b h; unfold bitsPassed; rw [Nat.sub_eq_zero_of_le h, Nat.mul_zero]
  | cons bit rest ih =>
    intro k a b h
    rw [bitsPassed_cons, ih (k + 1) (by omega), Nat.sub_eq_zero_of_le (by omega), Nat.mul_zero]

/-- Over the bits from bit k on the phase runs by the tone of the bit that each microsecond lies in. -/
theorem bitsPassed_eq_sum (band : Band) {rate : Nat} (start : Nat) (h : 0 < rate) (bits : List Bool) :
    ∀ k a b : Nat, (a < b → k ≤ (a - start) * rate / 1000000) →
      bitsPassed band rate start bits k a b =
        ((List.range (b - a)).map (fun j =>
          band.tone (bits.getD ((a + j - start) * rate / 1000000 - k) true))).sum := by
  induction bits with
  | nil =>
    intro k a b _
    unfold bitsPassed
    rw [sum_const (fun t => band.tone (([] : List Bool).getD ((t - start) * rate / 1000000 - k) true)) (band.tone true)
      (b - a) a (by simp)]
  | cons bit rest ih =>
    intro k a b hk
    rcases Nat.lt_or_ge a b with hab | hab
    · rw [bitsPassed_cons]
      have hm : min b (max a (bitEnd rate start k)) = a + (min b (max a (bitEnd rate start k)) - a) := by omega
      have hd : min b (max a (bitEnd rate start k)) - a ≤ b - a := by omega
      have hend : ∀ j, j < min b (max a (bitEnd rate start k)) - a → a + j < bitEnd rate start k := by omega
      have hafter : ∀ t, a + (min b (max a (bitEnd rate start k)) - a) ≤ t → t < b → ¬ t < bitEnd rate start k := by omega
      rw [hm]
      clear hm
      generalize min b (max a (bitEnd rate start k)) - a = d at hd hend hafter
      have hlen : b - a = d + (b - (a + d)) := by omega
      have later : ∀ t, a + d ≤ t → t < b → k + 1 ≤ (t - start) * rate / 1000000 := by
        intro t ht hb
        have := mt (lt_bitEnd_iff h).mpr (hafter t ht hb)
        omega
      rw [hlen, sum_split (fun t => band.tone ((bit :: rest).getD ((t - start) * rate / 1000000 - k) true)) a d,
        sum_const (fun t => band.tone ((bit :: rest).getD ((t - start) * rate / 1000000 - k) true)) (band.tone bit) d a,
        ih (k + 1) (a + d) b (fun hb => later _ (Nat.le_refl _) hb)]
      · congr 1
        · congr 1; omega
        · congr 1
          apply List.map_congr_left
          intro j hj
          have hj' := List.mem_range.mp hj
          have hl := later (a + d + j) (by omega) (by omega)
          obtain ⟨m, hm⟩ : ∃ m, (a + d + j - start) * rate / 1000000 = m + (k + 1) :=
            ⟨_, (Nat.sub_add_cancel hl).symm⟩
          have h1 : m + (k + 1) - k = m + 1 := by omega
          simp [hm, h1]
      · intro j hj
        have := (lt_bitEnd_iff h).mp (hend j hj)
        have z : (a + j - start) * rate / 1000000 - k = 0 := by omega
        simp [z]
    · rw [bitsPassed_empty _ _ _ _ _ hab, Nat.sub_eq_zero_of_le hab]; rfl

/-- The phase runs from one moment to another by the tone of each microsecond between them (R44). -/
theorem phasePassed_eq_sum (l : LineUnit) (a b : Nat) :
    l.phasePassed a b = ((List.range (b - a)).map (fun j => (l.toneAt (a + j)).getD 0)).sum := by
  unfold LineUnit.phasePassed
  dsimp only
  split
  · rename_i c rate f start hop
    have hl : ∀ t, (l.toneAt t).getD 0 =
        l.role.sendBand.tone ((frameBits f c).getD ((t - start) * rate / 1000000) true) := by
      intro t; simp [LineUnit.toneAt, LineUnit.levelAt, hop]
    split
    · rename_i h0
      rw [sum_const (fun t => (l.toneAt t).getD 0) (l.role.sendBand.tone false)]
      intro k _
      rw [hl, h0]; simp [frameBits]
    · rename_i h0
      rw [bitsPassed_eq_sum l.role.sendBand start (Nat.pos_of_ne_zero h0) (frameBits f c) 0 a b (fun _ => Nat.zero_le _)]
      simp only [hl, Nat.sub_zero]
  · rename_i hop
    have hc : ∀ t, l.toneAt t = l.toneAt a := by
      intro t
      unfold LineUnit.toneAt LineUnit.levelAt
      split <;> first | rfl | (rename_i heq; exact absurd heq (hop _ _ _ _))
    rw [sum_const (fun t => (l.toneAt t).getD 0) ((l.toneAt a).getD 0)]
    intro k _
    rw [hc]

/-- The phase passed over two stretches is the phase passed over the whole. -/
theorem phasePassed_add (l : LineUnit) {a b c : Nat} (h : a ≤ b) (k : b ≤ c) :
    l.phasePassed a c = l.phasePassed a b + l.phasePassed b c := by
  have e : c - a = (b - a) + (c - b) := by omega
  have f : a + (b - a) = b := by omega
  rw [phasePassed_eq_sum, phasePassed_eq_sum, phasePassed_eq_sum, e,
    sum_split (fun t => (l.toneAt t).getD 0) a (b - a) (c - b), f]

/-- A phase carried on to a later moment is below a cycle. -/
theorem reaches_tonePhase_lt (e : Surroundings) (l : LineUnit) (t : Nat) : (e.reaches l t).tonePhase < toneCycle :=
  Nat.mod_lt _ (by decide)

end Sys2Proof.Machine
end

