-- ==== Sys2Proof/Tests/Slice0.lean ====
section
/-! SUPPORT. Tests: the well-formedness smoke test, the manual's worked cases, one step of a few commands, and for every statement
with hypotheses a state that meets them, clause by clause. -/

namespace Sys2Proof.Tests

open Sys2Proof Sys2Proof.Machine Sys2Proof.Claims

/-! ## Small states -/

/-- The slot FREE and nothing owed or waiting at CBM. -/
def freeSlot : ControlBlock :=
  { ControlBlock.afterReset with slotBusy := false, answers := [], access := none, dirty := [] }

/-- A bring-up ring geometry. -/
def rings : Geometry := ⟨0x10, 16, 0x11, 16, 0x12, 8, 0x13, 4, 0x14⟩

/-- After reset, the owed answer served. -/
def ready : State := State.reset.withCbm freeSlot

/-- The same with the rings set. -/
def ringed : State := ready.withCbm { freeSlot with geometry := some rings, geometryRaw := rings }

/-- A line of a connection in a state. -/
def lineIn (l : LineState) : State :=
  ringed.withLu { LineUnit.afterReset with lineState := l, demod := true, carrier := true, txRest := .mark }

/-- ONLINE, the receiver in a state. -/
def receiving (r : Receiver) : State :=
  (lineIn .online).withLu { (lineIn .online).lu with receiver := r, onlineReached := true, qs := 120, idleMark := true }

/-- In standby. -/
def asleep : State := ringed.withCbm { ringed.cbm with standby := true }

/-- The slot BUSY. -/
def busy : State := ringed.withCbm { ringed.cbm with slotBusy := true }

/-- The engine in a state. -/
def engineIn (e : Engine) : State := ringed.withPs { ringed.ps with engine := e }

/-- A row with nothing burned, under the default settings. -/
def row : RowRecord := ⟨4, 5, 55, 68, [], none, false, false⟩

/-- A latch of a kind. -/
def latchOf (k : PrintKind) : Latch := ⟨0, k, 2, none⟩

/-- A row under way with a supply and a head temperature held. -/
def inRow (supply : Nat) (head : Int) : State :=
  (ringed.withPs { ringed.ps with engine := .burn, latch := some (latchOf .dots), rowKind := some .burning, row := some row }).withSm
    ⟨some supply, some head, none⟩

/-- A plan of two phases over segments 0 and 1. -/
def plan : Plan := ⟨48, 22, 4, 5, none, 72, [⟨0, 42, 30, 12⟩, ⟨1, 72, 72, 0⟩], [[0], [1]], 0⟩

/-- The first phase of that plan under way. -/
def burning : State := (inRow 48 22).withSp { StrobePlanner.afterReset with
  plan := some plan, pulses := [⟨0, 521, 325⟩], phaseStart := some 0, strobes := [0] }

/-- The state an outcome leaves; for outcomes that are no next state, the state after reset. -/
def after (o : Host.Outcome State Fault Refusal) : State :=
  match o with
  | .next t => t
  | _ => State.reset

/-! ## Well-formedness -/

theorem test_unknown_with_a_table_code_is_ill_formed : (Instr.unknown 0x01).wellFormed = false := by decide
theorem test_unknown_with_code_zero_is_ill_formed : (Instr.unknown 0x00).wellFormed = false := by decide
theorem test_space_with_margin_zero_is_ill_formed :
    (Instr.bitDecision .space 0).wellFormed = false ∧ (Instr.frameComplete .space 0).wellFormed = false := by decide
theorem test_tie_as_mark_is_well_formed :
    (Instr.bitDecision .mark 0).wellFormed = true ∧ (Instr.frameComplete .space 1).wellFormed = true := by decide
theorem test_unknown_with_another_code_is_well_formed : (Instr.unknown 0x77).wellFormed = true := by decide
theorem test_no_word_spells_a_command : decodeTableWord 8 1 = none := by decide

/-! ## Worked cases of the manual -/

theorem test_pulse_of_8_9 : pulseOf plan 200 0 = ⟨0, 521, 325⟩ := by decide
theorem test_heat_of_8_9 : heatSegment plan.counts [200, 0, 0, 0, 0, 0, 0, 0] ⟨0, 521, 325⟩ = [238, 0, 0, 0, 0, 0, 0, 0] := by
  decide
theorem test_cooling_of_9_3 : [238, 224, 210, 197, 185].map cooled = [224, 210, 197, 185, 174] := by decide
theorem test_scores_of_4_8 :
    ((updateQs 9 (receiving .hunt)).lu.qs, (updateQs 8 ((receiving .hunt).withLu { (receiving .hunt).lu with qs := 126 })).lu.qs,
      (updateQs 10 ((receiving .hunt).withLu { (receiving .hunt).lu with qs := 127 })).lu.qs,
      (updateQs 11 ((receiving .hunt).withLu { (receiving .hunt).lu with qs := 136 })).lu.qs) = (126, 127, 136, 146) := by decide
theorem test_levels_of_R104 : (xonLevel ringed, xoffLevel ringed, freeSlots ringed) = (15, 8, 15) := by decide
theorem test_image_wraps_round_the_row :
    (landImageByte 0xAA (ringed.withPs { ringed.ps with
      cache := .loading 0 ⟨.dots, 1, 0x5000, 4, 70, none⟩ blankImage 2 })).ps.cache
      = .loading 0 ⟨.dots, 1, 0x5000, 4, 70, none⟩ (blankImage.set 0 0xAA) 3 := by decide
theorem test_descriptor_that_ends_at_7FFF_is_valid :
    (judgeDescriptor [1, 1, 0xC0, 0x7F, 0x40, 0, 0x0F, 0]).isSome = true := by decide
theorem test_descriptor_past_RAM_is_bad : judgeDescriptor [1, 1, 0xC0, 0x7F, 0x41, 0, 0x0F, 0] = none := by decide
theorem test_allowances_of_8_2 :
    ([60, 52, 44].map (fun v => (allowance v false, allowance v true))) = [(216, 108), (144, 72), (72, 72)] := by decide

/-! ## One step of a command -/

theorem test_step_takes_the_front_command :
    (after (step (ringed.withPending [.connect, .disconnect]))).pending = [.disconnect] := by decide
theorem test_idle_step_moves_the_clock : (after (step ringed)).env.now = 1 := by decide
theorem test_idle_step_carries_the_tone : (after (step (lineIn .online))).env.tonePhase = 1120 := by decide
theorem test_connect_listens : (after (exec .connect ringed)).lu.lineState = .listen := by decide
theorem test_connect_is_answered : (after (exec .connect ringed)).cbm.answers = [.result 0x01, .clearCmd] := by decide
theorem test_connect_needs_rings : (after (exec .connect ready)).cbm.answers = [.result 0x04, .clearCmd] := by decide
theorem test_unknown_is_answered : (after (exec (.unknown 0x77) ready)).cbm.answers = [.result 0x08, .clearCmd] := by decide
theorem test_busy_slot_sets_owned_hit : (after (exec .connect busy)).cbm.flagsLo = 0x0A := by decide
theorem test_rings_reset_applies :
    (after (exec .ringsReset (ready.withCbm { freeSlot with geometryRaw := rings }))).cbm.geometry = some rings := by decide
theorem test_guard_set_awaits_confirm :
    (after (exec .guardSet (ready.withCbm { freeSlot with args := ⟨0, 0x20, 0x2F, 0x01, 0, 0⟩ }))).cbm.pendingCmd
      = some ⟨.guardSet, ⟨0, 0x20, 0x2F, 0x01, 0, 0⟩⟩ := by decide
theorem test_confirm_writes_the_window :
    (after (exec .confirm (ready.withCbm { freeSlot with
      pendingCmd := some ⟨.guardSet, ⟨0, 0x20, 0x2F, 0x01, 0, 0⟩⟩ }))).mp.windows.head? = some ⟨true, 0x20, 0x2F, false⟩ := by
  decide
theorem test_guarded_write_is_dropped :
    let s := ready.withMp { ready.mp with windows := [⟨true, 0x20, 0x2F, false⟩, clearWindow, clearWindow, clearWindow] }
    let t := after (exec (.hostWrite 0x2001 0x55) s)
    (t.mem, t.mp.guardHits, t.mp.guardFirst, t.cbm.flagsLo) = (([] : Memory), 1, 0x2001, 0x09) := by decide
theorem test_host_write_then_read :
    (after (exec (.hostRead 0x1234) (after (exec (.hostWrite 0x1234 0x5A) ready)))).mp.hostData = some 0x5A := by decide
theorem test_qualify_expiry_integrates :
    (after (exec .qualifyExpiry ((lineIn .qualify).withLu { (lineIn .qualify).lu with qualifyTimer := some 0 }))).lu.lineState
      = .integrate .first := by decide
theorem test_tenth_mark_enters_online :
    (after (exec (.bitDecision .mark 12) ((lineIn (.integrate .first)).withLu
      { (lineIn (.integrate .first)).lu with integRun := ⟨9, 11⟩ }))).lu.qs = 176 := by decide
theorem test_a_tie_counts_as_a_mark :
    (after (exec (.bitDecision .space 0) (lineIn (.integrate .first)))).lu.integRun = ⟨1, 0⟩ := by decide
theorem test_tones_of_an_originating_line :
    (toneOut (lineIn .online), heardTone (lineIn .online) true, heardTone (lineIn .online) false)
      = (some 1120, 2110, 2310) := by decide
theorem test_second_cancel_behind_the_fetch_index_records_nothing :
    let g := { rings with pqCap := 16 };
    let s := (ringed.withCbm { freeSlot with geometry := some g, pqProd := 8 }).withPs
      { ringed.ps with consumer := 5, fetchIndex := 9 };
    ((after (exec .printCancel s)).ps.completion, (after (exec .printCancel s)).ps.fetchIndex) = ([], 9) := by decide
theorem test_third_closed_pass_makes_a_press :
    (after (exec (.scanPass 1) (ready.withKs { ready.ks with
      records := ready.ks.records.set 0 { clearRecord with debounce := .closing2 } }))).ks.held = [⟨0, none⟩] := by decide
theorem test_wake_pass_wakes : (after (exec (.wakePass 2) (asleep.withKs { asleep.ks with scanMode := .wake }))).cbm.standby = false := by
  decide
theorem test_phase_end_heats_the_segment : (after (exec .phaseEnd burning)).hm.estimates.head? = some 38 := by decide
theorem test_step_takes_2500_microseconds :
    (after (exec .stepComplete ((engineIn .step).withPd ⟨.stepping, some 100, none, 3⟩))).env.now = 2600 := by decide
theorem test_reading_below_44_holds_the_row :
    (startLatchRow ((ringed.withEnv { ringed.env with senseIn := [⟨4399, 22000⟩] }).withPs
      { ringed.ps with latch := some (latchOf .dots) })).ps.engine = .batteryHold := by decide


/-! ## Witnesses: the hypotheses of each statement, clause by clause -/

/-- A host access is granted at once, the slot FREE, outside standby. -/
abbrev Takes (s : State) : Prop := HostGoes s ∧ s.cbm.slotBusy = false ∧ s.cbm.standby = false

/-- The reset line held. -/
def held : State := ringed.withMp { ringed.mp with resetHeld := true, hostWaiting := [.read 0x1234] }

/-- A status write-back waits at CBM, with the arbiter's counts. -/
def waitingAt (hostRun passCount : Nat) : State :=
  (ringed.withCbm { ringed.cbm with access := some (.status 0x1C), dirty := [0x1C] }).withMp
    { ringed.mp with hostRun := hostRun, passCount := passCount }

/-- Slot 9 of section 1.6: the host run count at 8, SU's first byte and CBM waiting. -/
def slotNine : State := (waitingAt 8 0).withSu { ringed.su with deposit := .byte0Wait, staging := [.line 0x41 false false false] }

/-- A window over pages 0x20 to 0x2F. -/
def windowed : State :=
  ringed.withMp { ringed.mp with windows := [⟨true, 0x20, 0x2F, false⟩, clearWindow, clearWindow, clearWindow] }

/-- A command that waits for CONFIRM. -/
def recorded (k : Confirmable) (a : Args) : State := ringed.withCbm { ringed.cbm with pendingCmd := some ⟨k, a⟩ }

/-- The settings changed. -/
def setTo (s : State) (f : Settings → Settings) : State := s.withCbm { s.cbm with settings := f s.cbm.settings }

/-- A step that waits at the gate with a receiver state. -/
def stepWaiting (r : Receiver) : State :=
  (setTo (receiving r) (fun t => { t with stepGate := .always })).withPd ⟨.waiting, none, some 0, 0⟩

/-- A frame of the reset format (ten bits) with `n` decisions. -/
def frameOf (n : Nat) : Receiver := .frame ⟨List.replicate n false, 9, false⟩

theorem test_witness_StepRunsTheFrontCommand :
    (ringed.withPending [.connect, .wake]).pending = .connect :: [.wake] ∧ ringed.pending = [] := by decide

theorem test_witness_EndOfEventReportsAndPresents :
    ringed.pd.stepState ≠ .waiting ∧ gateChanged ringed ringed = false ∧ attemptAllows (stepWaiting (frameOf 3)) = false ∧
    (stepWaiting .hunt).pd.stepState = .waiting ∧ gateChanged (stepWaiting (frameOf 3)) (stepWaiting .hunt) = true ∧
    attemptAllows (stepWaiting .hunt) = true ∧ 0x27 ∈ statusOffsets ∧
    (3 < 4 ∧ ringed.mp.windows[3]? = some clearWindow) := by decide

theorem test_witness_ResetLineValues : held.mp.resetHeld = true ∧ ringed.mp.resetHeld = false := by decide

theorem test_witness_HostRowsTakeTheirSlot :
    accessOf held (.hostRead 0x1234) = some (.read 0x1234) ∧ held.mp.resetHeld = true ∧
    accessOf (waitingAt 8 0) (.hostWrite 0x7FFF 1) = some (.write 0x7FFF 1) ∧ 8 ≤ (waitingAt 8 0).mp.hostRun ∧
    pick (waitingAt 8 0) = some .cbm ∧ grantRow (waitingAt 8 0) .cbm = some .statusWriteBackGrant ∧
    (accessOf (waitingAt 7 0) .connect).isSome = true ∧ HostGoes (waitingAt 7 0) ∧ HostGoes ringed ∧
    8 ≤ slotNine.mp.hostRun ∧ pick slotNine = some .su ∧ grantRow slotNine .su = some .streamByteGrant ∧
    held.mp.hostWaiting ≠ [] ∧ ¬ringed.mp.hostWaiting ≠ [] := by decide

theorem test_the_host_waits_through_slot_nine :
    let g := grantTo .su (hostWait (.read 0x1234) slotNine)
    let t := after (exec (.hostRead 0x1234) slotNine)
    (waitAsserted g, g.mp.hostRun, g.mp.passCount) = (true, 0, 1) ∧
    (t.mp.hostWaited, waitAsserted t, t.mp.hostRun, t.mp.passCount) = (true, false, 1, 1) ∧
    (after (exec (.hostRead 0x1234) t)).mp.hostWaited = false := by decide

theorem test_witness_HostReadGivesTheRamByte : HostGoes (waitingAt 7 0) ∧ HostGoes ringed := by decide

theorem test_witness_HostWriteByItsClass :
    (HostGoes busy ∧ ∀ n ∈ [0x7F80, 0x7F81, 0x7F82, 0x7F87, 0x7F98, 0x7FAB, 0x7FB0, 0x7FBB],
      busy.inBlock (addrOf n) = true ∧ partOwned busy.cbm.slotBusy ((addrOf n).toNat - busy.base) = true) ∧
    (HostGoes windowed ∧ ∀ n ∈ [0x2000, 0x2FFF],
      windowed.inBlock (addrOf n) = false ∧ windowed.mp.guardedSet ((addrOf n).toNat / 256) = true) ∧
    (∀ n ∈ [0x1FFF, 0x3000, 0x7F7F],
      windowed.inBlock (addrOf n) = false ∧ windowed.mp.guardedSet ((addrOf n).toNat / 256) = false) ∧
    (HostGoes ringed ∧ ∀ n ∈ [0x7F80, 0x7F88, 0x7F8F, 0x7F96, 0x7F97, 0x7FAC, 0x7FAF, 0x7FBC, 0x7FBF, 0x7FCD, 0x7FD9,
        0x7FE6, 0x7FFF],
      ringed.inBlock (addrOf n) = true ∧ partOwned ringed.cbm.slotBusy ((addrOf n).toNat - ringed.base) = false ∧
        inertOffset ((addrOf n).toNat - ringed.base) 0) ∧
    blockWriteOf (.argWrite 5 9) = some (0x07, 9) := by
  decide

theorem test_witness_SettingShadowsAreClamped :
    ringed.cbm.settings.xoffFree ≤ 64 ∧ ringed.cbm.settings.quietEnter ≤ 224 ∧ ringed.cbm.settings.warnTemp ≤ 70 := by decide

/-- Remote hold with its timer from 0, three seconds on. -/
def holding : State :=
  ((receiving .hunt).withLu { (receiving .hunt).lu with remoteHold := true, holdTimer := some 0 }).withEnv
    { ringed.env with now := 3000000 }

theorem test_witness_SetupWritesFormTheShadows :
    (HostGoes ringed ∧ ringed.cbm.slotBusy = false) ∧ (HostGoes holding ∧ holding.lu.holdTimer = some 0 ∧
    holding.env.now < 0 + min 60 (4 : Byte).toNat * 1000000 ∧ (3 : Byte) ≠ 0 ∧
    0 + min 60 (3 : Byte).toNat * 1000000 ≤ holding.env.now) ∧
    (SettingReg.darkness ≠ .xonFree ∧ SettingReg.darkness ≠ .quietExit ∧ SettingReg.darkness ≠ .stopTemp) := by decide

theorem test_witness_IndexWritesAreJudged :
    (HostGoes ready ∧ ready.cbm.geometry = none) ∧ (HostGoes ringed ∧ ringed.cbm.geometry = some rings ∧
    rings.txCap.toNat ≤ (16 : Byte).toNat ∧ rings.pqCap.toNat ≤ (4 : Byte).toNat ∧
    (0 : Byte).toNat < rings.txCap.toNat ∧ (0 : Byte).toNat = ringed.lu.txCons ∧ asleep.cbm.standby = true ∧ HostGoes asleep ∧
    (15 : Byte).toNat < rings.txCap.toNat ∧ ringed.cbm.standby = false ∧ (15 : Byte).toNat ≠ ringed.lu.txCons ∧
    (3 : Byte).toNat < rings.pqCap.toNat ∧ rings.rxCap.toNat ≤ (16 : Byte).toNat ∧ rings.keyCap.toNat ≤ (8 : Byte).toNat ∧
    ringDiff rings.rxCap.toNat ringed.su.producer ringed.cbm.rxCons
      < ringDiff rings.rxCap.toNat (15 : Byte).toNat ringed.cbm.rxCons ∧
    ringDiff rings.keyCap.toNat ringed.ks.producer ringed.cbm.keyCons
      < ringDiff rings.keyCap.toNat (7 : Byte).toNat ringed.cbm.keyCons ∧
    ringDiff rings.rxCap.toNat (0 : Byte).toNat ringed.cbm.rxCons
      ≤ ringDiff rings.rxCap.toNat ringed.su.producer ringed.cbm.rxCons ∧
    ringDiff rings.keyCap.toNat (0 : Byte).toNat ringed.cbm.keyCons
      ≤ ringDiff rings.keyCap.toNat ringed.ks.producer ringed.cbm.keyCons) := by decide

theorem test_witness_ConnectChecksAndStarts :
    (HostGoes asleep ∧ asleep.cbm.slotBusy = false ∧ asleep.cbm.standby = true) ∧
    (Takes (lineIn .listen) ∧ (lineIn .listen).lu.lineState ≠ .off) ∧
    (Takes ready ∧ ready.lu.lineState = .off ∧ ready.cbm.geometry = none) ∧
    (let s := ringed.withCbm { ringed.cbm with args := ⟨2, 0, 0, 0, 0, 0⟩ };
      Takes s ∧ s.lu.lineState = .off ∧ s.cbm.geometry.isSome = true ∧ 1 < s.cbm.args.arg0.toNat) ∧
    (let s := ringed.withCbm { ringed.cbm with args := ⟨1, 0, 0, 0, 0, 0⟩ };
      Takes s ∧ s.lu.lineState = .off ∧ s.cbm.geometry.isSome = true ∧ s.cbm.args.arg0.toNat ≤ 1) := by decide

/-- A hold request set, the engine in a state. -/
def asked (e : Engine) (p : HeldPoint) : State :=
  (engineIn e).withPs { (engineIn e).ps with holdRequest := true, heldPoint := p }

theorem test_witness_HoldIsSetAndCleared :
    (∀ e ∈ [Engine.burn, .idle, .waitCache], Takes (engineIn e) ∧ (engineIn e).ps.holdRequest = false) ∧
    (engineIn .burn).ps.engine ≠ .idle ∧ (engineIn .burn).ps.engine ≠ .waitCache ∧
    (∀ p ∈ [HeldPoint.betweenRows, .inRow], Takes (asked .held p) ∧ (asked .held p).ps.holdRequest = true ∧
      (asked .held p).ps.engine = .held ∧ (asked .held p).ps.heldPoint = p) ∧
    (Takes (asked .burn .inRow) ∧ (asked .burn .inRow).ps.holdRequest = true ∧ (asked .burn .inRow).ps.engine ≠ .held) ∧
    asleep.cbm.standby = true := by
  decide

/-- A raw geometry. -/
def raw (g : Geometry) : State := ready.withCbm { freeSlot with geometryRaw := g }

theorem test_witness_RingsResetChecksAndApplies :
    (Takes (lineIn .listen) ∧ (lineIn .listen).lu.lineState ≠ .off) ∧
    (∀ g ∈ [{ rings with txBase := 128 }, { rings with txCap := 15 }, { rings with keyBase := 0x11 }, rings],
      Takes (raw g) ∧ (raw g).lu.lineState = .off ∧ (raw g).ps.engine = .idle ∧ (raw g).ps.cache = .empty ∧
        (raw g).cbm.geometryRaw = g) ∧
    ¬({ rings with txBase := 128 } : Geometry).txBase.toNat ≤ 127 ∧
    ¬16 ≤ ({ rings with txCap := 15 } : Geometry).txCap.toNat ∧
    placeable { rings with keyBase := 0x11 } (raw { rings with keyBase := 0x11 }) = false ∧
    placeable rings (raw rings) = true ∧
    (∀ b ∈ [rings.txBase, rings.rxBase, rings.keyBase, rings.pqBase, rings.keymapBase], b.toNat ≤ 127) ∧
    (16 ≤ rings.txCap.toNat ∧ rings.txCap.toNat ≤ 255) ∧ (16 ≤ rings.rxCap.toNat ∧ rings.rxCap.toNat ≤ 255) ∧
    (8 ≤ rings.keyCap.toNat ∧ rings.keyCap.toNat ≤ 63) ∧ (4 ≤ rings.pqCap.toNat ∧ rings.pqCap.toNat ≤ 31) := by decide

theorem test_witness_SoftResetValues :
    Takes (recorded .softReset ⟨0, 0, 0, 0, 0, 0⟩) ∧
    (recorded .softReset ⟨0, 0, 0, 0, 0, 0⟩).cbm.pendingCmd = some ⟨.softReset, ⟨0, 0, 0, 0, 0, 0⟩⟩ := by decide

theorem test_witness_CommandsAreTurnedAway :
    (codeOf .connect = some 0x01 ∧ HostGoes busy ∧ busy.cbm.slotBusy = true) ∧
    (codeOf .softReset = some 0x5F ∧ (0x5F : Byte) ≠ 0x00 ∧ (0x5F : Byte) ≠ 0x51 ∧ HostGoes asleep ∧
      asleep.cbm.slotBusy = false ∧ asleep.cbm.standby = true) ∧
    (∀ code ∈ [(0x04 : Byte), 0xFF], (Instr.unknown code).wellFormed = true) ∧ Takes ready := by decide

theorem test_witness_ConnectionEndsAndBreaks :
    (Takes ringed ∧ ringed.lu.lineState = .off) ∧
    (Takes (lineIn .listen) ∧ (lineIn .listen).lu.lineState ≠ .off ∧ (lineIn .listen).lu.onlineReached = false) ∧
    (Takes (receiving .hunt) ∧ (receiving .hunt).lu.lineState ≠ .off ∧ (receiving .hunt).lu.onlineReached = true) ∧
    (lineIn .listen).lu.lineState ≠ .online ∧
    (let s := (receiving .hunt).withLu { (receiving .hunt).lu with breakReq := true, txOp := some (.breakSpace 0) };
      Takes s ∧ s.lu.lineState = .online ∧ s.lu.breakReq = true ∧ s.lu.txOp = some (.breakSpace 0)) ∧
    (receiving .hunt).lu.lineState = .online ∧ (receiving .hunt).lu.breakReq = false ∧ (receiving .hunt).lu.txOp = none := by
  decide

/-- A cancel pending with the queue in a state. -/
def cancelling (e : Engine) (prod : Nat) : State :=
  ((engineIn e).withPs { (engineIn e).ps with cancel := some ⟨prod, true⟩ }).withCbm { ringed.cbm with pqProd := 2 }

theorem test_witness_CancelEndsThePrinting :
    (∀ e ∈ [Engine.burn, .stepWait, .step, .idle, .waitCache, .coolPace, .held, .hotHalt, .batteryHold, .errorStop],
      Takes (engineIn e) ∧ (engineIn e).ps.engine = e) ∧
    ringed.ps.cancel = none ∧
    ((cancelling .errorStop 1).ps.cancel = some ⟨1, true⟩ ∧ (cancelling .errorStop 1).ps.engine = .errorStop) ∧
    (let s := cancelling .idle 1;
      s.ps.cancel = some ⟨1, true⟩ ∧ s.ps.engine ≠ .errorStop ∧ s.ringsSet = true ∧ s.cbm.standby = false ∧
        s.ps.woundBack = false ∧ ringDiff (s.geo Geometry.pqCap) 1 s.ps.consumer
          < ringDiff (s.geo Geometry.pqCap) s.cbm.pqProd s.ps.consumer) ∧
    (let s := cancelling .idle 2;
      s.ps.cancel = some ⟨2, true⟩ ∧ ringDiff (s.geo Geometry.pqCap) s.cbm.pqProd s.ps.consumer
        ≤ ringDiff (s.geo Geometry.pqCap) 2 s.ps.consumer) := by decide

/-- Arguments of GUARD_SET that pass its checks, and those that do not. -/
def clearOfRings : Args := ⟨3, 126, 126, 1, 0, 0⟩
def overRings : Args := ⟨0, 0x10, 0x10, 1, 0, 0⟩

theorem test_witness_ConfirmableCommandsAreChecked :
    (ringed.withMp { ringed.mp with tight := true }).mp.tight = true ∧ ringed.mp.tight = false ∧
    3 < (4 : Byte).toNat ∧ 127 < (128 : Byte).toNat ∧ (1 : Byte).toNat < (2 : Byte).toNat ∧
    (clearOfRings.arg0.toNat ≤ 3 ∧ clearOfRings.arg1.toNat ≤ clearOfRings.arg2.toNat ∧ clearOfRings.arg2.toNat ≤ 127 ∧
      ¬∃ p, p < 128 ∧ (⟨true, 126, 126, false⟩ : Window).guards p = true ∧ partPage ringed p = true) ∧
    (overRings.arg0.toNat ≤ 3 ∧ overRings.arg1.toNat ≤ overRings.arg2.toNat ∧ overRings.arg2.toNat ≤ 127 ∧
      ∃ p, p < 128 ∧ (⟨true, 0x10, 0x10, false⟩ : Window).guards p = true ∧ partPage ringed p = true) ∧
    (127 < (128 : Byte).toNat ∧ (127 : Byte).toNat ≤ 127) ∧
    (let s := ringed.withCbm { ringed.cbm with args := overRings };
      Takes s ∧ confirmableCheck ⟨.guardSet, s.cbm.args⟩ s = some .overlap) ∧
    (let s := ringed.withCbm { ringed.cbm with args := clearOfRings };
      Takes s ∧ ∀ k ∈ [Confirmable.guardSet, .guardTight, .softReset], confirmableCheck ⟨k, s.cbm.args⟩ s = none) := by
  decide +kernel

theorem test_witness_GuardCommandsExecute :
    (Takes ringed ∧ ringed.cbm.pendingCmd = none) ∧
    (Takes (recorded .guardSet overRings) ∧
      confirmableCheck ⟨.guardSet, overRings⟩ (recorded .guardSet overRings) = some .overlap) ∧
    (∀ p ∈ [(⟨.guardSet, clearOfRings⟩ : PendingCommand), ⟨.guardOpen, ⟨127, 0, 0, 0, 0, 0⟩⟩, ⟨.guardTight, clearOfRings⟩],
      Takes (recorded p.code p.args) ∧ (recorded p.code p.args).cbm.pendingCmd = some p ∧
        confirmableCheck p (recorded p.code p.args) = none) := by decide

/-- A STOP halt that waits for HOT_STOP, the row's warn limit below or above every Teff. -/
def halted (heat : Nat) : State :=
  (((inRow 48 22).withPs { (inRow 48 22).ps with engine := .hotHalt }).withHm
    ⟨[heat, 0, 0, 0, 0, 0, 0, 0], 0, none, .ackWait⟩).withCbm { ringed.cbm with flagsHi := 0x40 }

theorem test_witness_FlagsAreAcknowledged :
    (HostGoes ringed ∧ ringed.ps.engine ≠ .errorStop) ∧
    (HostGoes (engineIn .errorStop) ∧ (engineIn .errorStop).ps.engine = .errorStop ∧ (0x80 : Byte).getLsbD 7 = true) ∧
    (0x7F : Byte).getLsbD 7 = false ∧ (0xBF : Byte).getLsbD 6 = false ∧ ringed.hm.halt ≠ .ackWait ∧ ringed.ps.row = none ∧
    (HostGoes (halted 736) ∧ (halted 736).hotAt 68 = true ∧ (halted 736).cbm.flagsHi.getLsbD 6 = true) ∧
    (HostGoes (halted 735) ∧ (0x40 : Byte).getLsbD 6 = true ∧ (halted 735).hm.halt = .ackWait ∧
      (halted 735).ps.row = some row ∧ (halted 735).hotAt 68 = false) ∧ Takes (halted 735) := by decide

theorem test_witness_StandbyBeginsAndEnds :
    (Takes (lineIn .listen) ∧ (lineIn .listen).lu.lineState ≠ .off) ∧
    (∀ s ∈ [ready, ringed], Takes s ∧ s.lu.lineState = .off ∧ s.ps.engine = .idle ∧
      (s.cbm.geometry = none ∨ s.ps.fetchIndex = s.cbm.pqProd)) ∧
    (let s := ready.withCbm { freeSlot with standby := true };
      HostGoes s ∧ s.cbm.slotBusy = false ∧ s.cbm.standby = true ∧ s.cbm.geometry = none) ∧
    (HostGoes asleep ∧ asleep.cbm.slotBusy = false ∧ asleep.cbm.standby = true ∧ asleep.cbm.geometry.isSome = true) ∧
    ((asked .idle .inRow).ps.holdRequest = true ∧ ringed.ps.holdRequest = false ∧ ringed.ps.localFeeds = 0 ∧
      0 < (ringed.withPs { ringed.ps with localFeeds := 1 }).ps.localFeeds) ∧
    (∀ e ∈ [Engine.idle, .held], (fetchWork ((engineIn e).withPs { (engineIn e).ps with woundBack := false })).ps.engine = e) := by
  decide

/-- The part's own accesses: each presented alone, so that the arbiter chooses it. -/
def answering (w : OwedWrite) : State := ringed.withCbm { ringed.cbm with answers := [w], access := some .answer, slotBusy := true }
def fetchingChar (f : RingFetch) (prod : Nat) : State :=
  ((receiving .hunt).withLu { (receiving .hunt).lu with ringFetch := f }).withCbm { ringed.cbm with txProd := prod }
def depositing (d : Deposit) : State := ringed.withSu { ringed.su with staging := [.line 0x41 false false false], deposit := d }
def keyed (p : Processing) : State := ringed.withKs { ringed.ks with fifo := [⟨79, .press, 3, .lookup, none, 0⟩], proc := p }
def printing (a : PsAccess) (c : Cache) (l : List Completion) : State :=
  ringed.withPs { ringed.ps with access := some a, cache := c, completion := l }

/-- A DOTS descriptor of two image bytes. -/
def dots2 : Descriptor := ⟨.dots, 1, 0x5000, 2, 71, none⟩

theorem test_witness_GrantNotChosenDoesNothing :
    pick ringed = none ∧ ringed.cbm.access = none ∧ ringed.lu.ringFetch = .none ∧ ringed.su.deposit = .none ∧
    ringed.ks.proc = .none ∧ ringed.ps.access = none ∧
    (∀ w ∈ [OwedWrite.partIndex .keyProd, .result 0x01, .clearCmd], ∀ v ∈ [OwedWrite.partIndex .keyProd, .result 0x01, .clearCmd],
      w ≠ v → (answering w).cbm.access = some .answer ∧ (answering w).cbm.answers.head? ≠ some v) := by decide

theorem test_witness_ControlBlockWriteBacks :
    (pick (waitingAt 0 0) = some .cbm ∧ (waitingAt 0 0).cbm.access = some (.status 0x1C)) ∧
    (∀ w ∈ [OwedWrite.partIndex .keyProd, .result 0x01, .clearCmd], pick (answering w) = some .cbm ∧
      (answering w).cbm.access = some .answer ∧ (answering w).cbm.answers = w :: []) := by decide

theorem test_witness_StatusMirrorBytes : 3 < 4 ∧ ringed.mp.windows[3]? = some clearWindow := by decide

theorem test_witness_KeyEventGrants :
    (pick (keyed .lookupWait) = some .ks ∧ (keyed .lookupWait).ks.proc = .lookupWait ∧
      (keyed .lookupWait).ks.fifo = ⟨79, .press, 3, .lookup, none, 0⟩ :: [] ∧ 79 < (keyed .lookupWait).ks.records.length) ∧
    (∀ i ∈ [0, 3], pick (keyed (.byteWait i)) = some .ks ∧ (keyed (.byteWait i)).ks.proc = .byteWait i ∧ i < 4) ∧
    (pick (keyed .indexWait) = some .ks ∧ (keyed .indexWait).ks.proc = .indexWait) := by decide

/-- PQ_PROD moved back to 6 during a cancel up to 8: the PQ_CONS write of position 6 carries the consumer past the shadow. -/
def passingShadow : State :=
  (ringed.withCbm { ringed.cbm with pqProd := 6, geometry := some { rings with pqCap := 16 } }).withPs
    { ringed.ps with
      consumer := 6, fetchIndex := 8, access := some .indexWrite, completion := [⟨6, .cancelled⟩, ⟨7, .cancelled⟩] }

theorem test_advance_of_the_consumer_begins_a_fetch :
    let t := after (exec .pqConsWriteGrant passingShadow)
    (t.ps.consumer, t.ps.cache, t.ps.fetchIndex, t.ps.engine) = (7, .fetching 8 [], 9, .waitCache) ∧
    t.ps.completion = [⟨7, .cancelled⟩] ∧ t.ps.access = some .resultWrite := by decide
theorem test_ordinary_advance_begins_none :
    let s := passingShadow.withCbm { passingShadow.cbm with pqProd := 8 }
    (after (exec .pqConsWriteGrant s)).ps.cache = .empty ∧ (after (exec .pqConsWriteGrant s)).ps.engine = .idle := by decide

theorem test_witness_ArbiterChoosesAndCounts :
    held.mp.resetHeld = true ∧
    ((waitingAt 0 16).mp.resetHeld = false ∧ presents (waitingAt 0 16) .cbm = true ∧ 16 ≤ (waitingAt 0 16).mp.passCount) ∧
    ((waitingAt 0 15).mp.passCount < 16 ∧ presents (waitingAt 0 15) .su = false ∧ presents (waitingAt 0 15) .lu = false ∧
      presents (waitingAt 0 15) .ks = false ∧ presents (waitingAt 0 15) .ps = false ∧ presents (waitingAt 0 15) .cbm = true) ∧
    presents (depositing .byte0Wait) .su = true ∧ presents (fetchingChar .readWait 1) .lu = true ∧
    presents (keyed .lookupWait) .ks = true ∧ presents (printing .resultWrite .empty [⟨0, .done⟩]) .ps = true ∧
    internalWaiting ringed = false ∧ Requester.su ≠ Requester.cbm := by decide

theorem test_witness_RingAndStreamGrants :
    (let s := fetchingChar .readWait 1;
      pick s = some .lu ∧ s.lu.ringFetch = .readWait ∧ s.lu.lineState = .online ∧ s.cbm.txProd ≠ s.lu.txCons) ∧
    (let s := fetchingChar .readWait 0;
      pick s = some .lu ∧ s.lu.ringFetch = .readWait ∧ s.cbm.txProd = s.lu.txCons) ∧
    (let s := fetchingChar .indexWait 1;
      pick s = some .lu ∧ s.lu.ringFetch = .indexWait) ∧
    (∀ d ∈ [Deposit.byte0Wait, .byte1Wait, .indexWait], pick (depositing d) = some .su ∧ (depositing d).su.deposit = d ∧
      (depositing d).su.staging = .line 0x41 false false false :: []) ∧
    (3 : Nat) < 4 := by decide

theorem test_witness_PrintQueueGrants :
    (ready.cbm.geometry = none ∧ ringed.cbm.geometry = some rings ∧ ringed.cbm.geometry.isSome = true) ∧
    (∀ d ∈ [true, false], ∀ l ∈ [6, 7],
      let s := printing (.descriptorRead 0x1300 d) (.fetching 3 (List.replicate l 1)) [];
      pick s = some .ps ∧ s.ps.access = some (.descriptorRead 0x1300 d) ∧ s.ps.completion = [] ∧
        s.ps.cache = .fetching 3 (List.replicate l 1) ∧ (List.replicate l (1 : Byte)).length = l) ∧
    (∀ d ∈ [true, false], ∀ k ∈ [0, 1],
      let s := printing (.imageRead 0x5000 d) (.loading 3 dots2 blankImage k) [];
      pick s = some .ps ∧ s.ps.access = some (.imageRead 0x5000 d) ∧ s.ps.cache = .loading 3 dots2 blankImage k) ∧
    (0 + 1 < dots2.length ∧ dots2.length ≤ 1 + 1) ∧
    ((0 : Byte) ≠ 1 ∧ (0 : Byte) ≠ 2 ∧ (0 : Byte) ≠ 3 ∧ 0x8000 ≤ (0x00 : Byte).toNat + 256 * (0x80 : Byte).toNat ∧
      1 ≤ (1 : Byte).toNat ∧ (0xFF : Byte).toNat + 256 * (0x7F : Byte).toNat < 0x8000 ∧
      (0xFF : Byte).toNat + 256 * (0x7F : Byte).toNat + (1 : Byte).toNat - 1 < 0x8000 ∧
      0x8000 ≤ (0xFF : Byte).toNat + 256 * (0x7F : Byte).toNat + (2 : Byte).toNat - 1 ∧
      72 ≤ (72 : Byte).toNat ∧ (71 : Byte).toNat ≤ 71) ∧
    (∀ a ∈ [PsAccess.resultWrite, .indexWrite],
      let s := printing a .empty [⟨3, .done⟩];
      pick s = some .ps ∧ s.ps.completion = ⟨3, .done⟩ :: [] ∧ s.ps.access = some a ∧ s.ps.completion ≠ []) := by decide

/-- A break candidate with `n` decisions counted. -/
def candidateAt (n : Nat) : Receiver := .candidate ⟨false, true, false, n⟩

/-- The idle run at a count, over a receiver state. -/
def idleRunAt (r : Receiver) (n : Nat) : State := (receiving r).withLu { (receiving r).lu with idleRun := ⟨n, 9⟩ }

/-- The line ONLINE with a stream ring nearly full, so that an evaluation asks for a stop. -/
def nearlyFull (f : OwnFlow) : State := (receiving .hunt).withSu { ringed.su with producer := 15, ownFlow := f }

/-- The same with an order choice of the outside (log 11). -/
def choosing (l : List Bool) : State := (nearlyFull .flowing).withEnv { ringed.env with orderIn := l }

theorem test_witness_EntryToOnline :
    (atBoundary (lineIn .listen) = false ∧ ownFlowNext (receiving .hunt) = (receiving .hunt).su.ownFlow) ∧
    (∀ l ∈ [[true], []], atBoundary (choosing l) = true ∧ ownFlowNext (choosing l) ≠ (choosing l).su.ownFlow ∧
      (choosing l).env.orderIn = l) := by decide

theorem test_witness_CarrierMovesTheLine :
    (ringed.lu.demod = false ∧ (receiving .hunt).lu.carrier = true) ∧
    (∀ l ∈ [LineState.off, .listen, .qualify, .integrate .first, .integrate .again, .online, .fade],
      (lineIn l).lu.demod = true ∧ (lineIn l).lu.carrier = true ∧ (lineIn l).lu.lineState = l ∧
      ((lineIn l).withLu { (lineIn l).lu with carrier := false }).lu.carrier = false) := by decide

theorem test_witness_LineTimersAndIntegration :
    (let s := (lineIn .qualify).withLu
        { (lineIn .qualify).lu with qualifyTimer := some 0, listenTimer := some 0, lossHold := some ⟨0, 15⟩ };
      s.lu.qualifyTimer = some 0 ∧ s.lu.listenTimer = some 0 ∧ s.lu.lossHold = some ⟨0, 15⟩) ∧
    (ringed.lu.qualifyTimer = none ∧ ringed.lu.listenTimer = none ∧ ringed.lu.lossHold = none ∧ ringed.lu.demod = false) ∧
    (∀ n ∈ [8, 9], let s := (lineIn (.integrate .again)).withLu { (lineIn (.integrate .again)).lu with integRun := ⟨n, 9⟩ };
      s.lu.demod = true ∧ s.lu.lineState = .integrate .again ∧ s.lu.integRun.count = n) ∧ 0 < (1 : Fin 16).val ∧
    (∀ l ∈ [LineState.off, .listen, .qualify, .fade], (lineIn l).lu.demod = true ∧
      (lineIn l).lu.lineState ∈ [LineState.off, .listen, .qualify, .fade]) := by decide

theorem test_witness_LineQualityAndQuietMode :
    ((receiving .hunt).lu.qs ≤ 240 ∧ 15 ≤ 15) ∧
    (∀ q ∈ [(false, 95), (false, 96), (true, 144), (true, 143)],
      let s := (receiving .hunt).withLu { (receiving .hunt).lu with quiet := q.1, qs := q.2 };
      s.lu.quiet = q.1 ∧ s.lu.qs = q.2 ∧ s.cbm.settings.quietEnter = 96 ∧ s.cbm.settings.quietExit = 144) := by decide

theorem test_witness_ReceiverOutsideFrames :
    (∀ r ∈ [Receiver.hunt, .verify, .brk], ∀ n ∈ [0, 8, 9], let s := idleRunAt r n;
      s.lu.demod = true ∧ s.lu.lineState = .online ∧ s.lu.receiver = r ∧ s.lu.idleRun.count = n) ∧
    0 < (1 : Fin 16).val ∧ 0 + 1 ≠ 10 ∧ 8 + 1 ≠ 10 ∧ (9 : Nat) = 9 ∧ Receiver.verify ≠ .hunt ∧ Receiver.hunt ≠ .brk := by decide

/-- A frame of ten bits at its last decision, its bits given. -/
def lastOf (bits : List Bool) (hold : Bool) : State :=
  (receiving (.frame ⟨bits, 9, false⟩)).withLu { (receiving (.frame ⟨bits, 9, false⟩)).lu with remoteHold := hold }

/-- The decisions of 0x13 and 0x11 in the reset format, less the stop bit. -/
def bits13 : List Bool := [true, true, false, false, true, false, false, true]
def bits11 : List Bool := [true, false, false, false, true, false, false, false]

theorem test_witness_FramesAreReceived :
    (let s := receiving (frameOf 7);
      s.lu.demod = true ∧ s.lu.lineState = .online ∧ s.lu.receiver = frameOf 7 ∧ 7 + 2 < s.lu.format.length) ∧
    (∀ b ∈ [bits13, bits11, List.replicate 8 false], ∀ h ∈ [true, false], let s := lastOf b h;
      s.lu.demod = true ∧ s.lu.lineState = .online ∧ s.lu.receiver = .frame ⟨b, 9, false⟩ ∧
        b.length + 2 = s.lu.format.length ∧ s.lu.remoteHold = h) ∧
    (let f := (receiving .hunt).lu.format;
      let t := (receiving .hunt).cbm.settings;
      (((List.replicate 8 false ++ [false]).take f.dataBits).all (fun b => !b) = true ∧
        framingError f (List.replicate 8 false ++ [false]) = true) ∧
      (((bits13 ++ [true]).take f.dataBits).all (fun b => !b) = false ∧ parityError f (bits13 ++ [true]) = false ∧
        framingError f (bits13 ++ [true]) = false ∧
        flowChar t false (byteOf (charValue ((bits13 ++ [true]).take f.dataBits))) = .xoff) ∧
      (parityError f (bits11 ++ [true]) = false ∧ framingError f (bits11 ++ [true]) = false ∧
        flowChar t true (byteOf (charValue ((bits11 ++ [true]).take f.dataBits))) = .xon) ∧
      parityError f (bits13.set 0 false ++ [true]) = true ∧ framingError f (bits13 ++ [false]) = true) := by decide

theorem test_witness_FormatsOfCharactersAndEntries :
    3 < 4 ∧ (⟨0, .press, 3, .lookup, some 0x41, 0⟩ : KeyEvent).mapped = some 0x41 ∧
    (blankImage.length = 72 ∧ 7 < 8 ∧ 8 < 9) ∧
    (∀ p ∈ [Parity.none, .even, .odd, .mark, .space], let f : LineFormat := ⟨p, p == .none, false⟩;
      (List.replicate (f.length - 1) true).length + 1 = f.length ∧ f.parity = p) ∧
    (let t := ringed.cbm.settings;
      t.rxFlow = true ∧ ({ t with rxFlow := false } : Settings).rxFlow = false ∧ (0x41 : Byte) ≠ t.xoffChar ∧
        (0x41 : Byte) ≠ t.xonChar ∧ (0x13 : Byte) = t.xoffChar ∧ (0x13 : Byte) ≠ t.xonChar ∧ (0x11 : Byte) = t.xonChar ∧
        (0x11 : Byte) ≠ t.xoffChar) := by decide

theorem test_witness_BreakCandidateDecides :
    (∀ n ∈ [10, 18, 19], ∀ i ∈ [0, 9], let s := idleRunAt (candidateAt n) i;
      s.lu.demod = true ∧ s.lu.lineState = .online ∧ s.lu.receiver = candidateAt n ∧ s.lu.idleRun.count = i) ∧
    0 < (1 : Fin 16).val ∧ 18 + 1 < 2 * ringed.lu.format.length ∧ 19 + 1 = 2 * ringed.lu.format.length := by decide

/-- A character under way, the clock in its bit `i`. -/
def sendingBit (i : Nat) : State :=
  ((receiving .hunt).withLu { (receiving .hunt).lu with txOp := some (.character 0x41 300 ringed.lu.format 0) }).withEnv
    { ringed.env with now := i * 3334 }

theorem test_witness_TransmitOperationsEnd :
    (holding.lu.holdTimer = some 0 ∧ holding.cbm.settings.holdLimit ≠ 0) ∧
    ((setTo holding (fun t => { t with holdLimit := 0 })).cbm.settings.holdLimit = 0 ∧ ringed.lu.holdTimer = none) ∧
    (∀ o ∈ [TxOp.character 0x41 300 ringed.lu.format 0, .breakSpace 0, .breakTail 0],
      ((receiving .hunt).withLu { (receiving .hunt).lu with txOp := some o }).lu.txOp = some o) ∧
    ringed.lu.txOp = none ∧ ringed.lu.txRest = .silent ∧ (lineIn .online).lu.txOp = none ∧ (lineIn .online).lu.txRest = .mark ∧
    (∀ i ∈ [0, 1, 7, 8, 9], (sendingBit i).lu.txOp = some (.character 0x41 300 ringed.lu.format 0) ∧
      ((sendingBit i).env.now - 0) * 300 / 1000000 = i) ∧
    (ringed.lu.role = .originate ∧ ({ ringed.lu with role := .answer } : LineUnit).role = .answer) ∧
    (lineIn .online).lu.demod = true ∧ ringed.lu.demod = false := by decide

/-- A tone under way at a phase. -/
def atPhase (phase : Nat) (s : State) : State := s.withEnv { s.env with tonePhase := phase }

theorem test_phase_runs_over_the_bits_of_a_character :
    (after (exec .characterOperationComplete (atPhase 250 (sendingBit 0)))).env.tonePhase = 10 := by decide
theorem test_phase_is_kept_when_the_tone_changes :
    let s := atPhase 123456 ((lineIn .online).withCbm freeSlot);
    let t := after (exec .sendBreak s);
    (toneOut s, toneOut t, t.env.tonePhase) = (some 1120, some 1320, 123456) := by decide

/-- ONLINE at a boundary with the key-transmit FIFO, a break request, remote hold and the host's producer given. -/
def atTurn (keys : List Byte) (brk hold : Bool) (prod : Nat) (f : OwnFlow) : State :=
  (((receiving .hunt).withLu { (receiving .hunt).lu with keyTx := keys, breakReq := brk, remoteHold := hold }).withCbm
    { ringed.cbm with txProd := prod }).withSu { ringed.su with ownFlow := f }

theorem test_witness_TransmitArbiterChoice :
    atBoundary ringed = false ∧
    (∀ f ∈ [OwnFlow.stopAsked, .goAsked], atBoundary (atTurn [] false false 0 f) = true ∧ (atTurn [] false false 0 f).su.ownFlow = f) ∧
    (let s := atTurn [0x41] true false 1 .stopped;
      atBoundary s = true ∧ s.su.ownFlow ≠ .stopAsked ∧ s.su.ownFlow ≠ .goAsked ∧ s.lu.breakReq = true) ∧
    (let s := atTurn [0x41] false false 1 .flowing;
      atBoundary s = true ∧ s.su.ownFlow ≠ .stopAsked ∧ s.su.ownFlow ≠ .goAsked ∧ s.lu.breakReq = false ∧
        s.lu.keyTx = 0x41 :: [] ∧ s.lu.remoteHold = false) ∧
    (let s := atTurn [] false false 1 .flowing;
      atBoundary s = true ∧ s.lu.breakReq = false ∧ s.lu.keyTx = [] ∧ s.lu.remoteHold = false ∧
        s.cbm.geometry.isSome = true ∧ s.cbm.txProd ≠ s.lu.txCons ∧ s.lu.ringFetch = .none) ∧
    (atBoundary (atTurn [] false true 1 .flowing) = true ∧ (atTurn [] false true 1 .flowing).lu.remoteHold = true) ∧
    (atBoundary (atTurn [] false false 0 .flowing) = true ∧ (atTurn [] false false 0 .flowing).cbm.txProd = 0) := by decide

/-- Staging with `n` entries, the lost count, the producer and the deposit given. -/
def staged (n lost producer : Nat) (d : Deposit) : State :=
  ringed.withSu { ringed.su with staging := List.replicate n (.echo 0x41), lostCount := lost, producer := producer, deposit := d }

theorem test_witness_StreamArrivals :
    (staged 7 0 0 .none).su.staging.length < 8 ∧ 8 ≤ (staged 8 0 0 .none).su.staging.length ∧
    (0 < (staged 7 1 0 .none).su.lostCount ∧ (staged 7 1 0 .none).su.staging.length < 8) ∧
    (staged 7 0 0 .none).su.lostCount = 0 ∧
    (let s := staged 1 0 14 .none;
      s.cbm.geometry = some rings ∧ s.su.staging ≠ [] ∧ s.su.deposit = .none ∧
        (s.su.producer + 1) % rings.rxCap.toNat ≠ s.su.consumerCopy) ∧
    (staged 0 0 0 .none).su.staging = [] ∧ (staged 1 0 0 .byte0Wait).su.deposit ≠ .none ∧
    ((staged 1 0 15 .none).su.producer + 1) % rings.rxCap.toNat = (staged 1 0 15 .none).su.consumerCopy ∧
    ready.cbm.geometry = none := by decide

theorem test_witness_OwnFlowEvaluation :
    (∀ f ∈ [OwnFlow.flowing, .stopAsked, .stopped, .goAsked], (nearlyFull f).cbm.geometry = some rings ∧
      (nearlyFull f).cbm.settings.txFlow = true ∧ (nearlyFull f).su.ownFlow = f) ∧
    (setTo ringed (fun t => { t with txFlow := false })).cbm.settings.txFlow = false ∧ ringed.lu.lineState ≠ .online ∧
    ((receiving .hunt).lu.lineState = .online ∧ ownFlowNext (receiving .hunt) = (receiving .hunt).su.ownFlow) ∧
    ((nearlyFull .flowing).lu.lineState = .online ∧ ownFlowNext (nearlyFull .flowing) ≠ (nearlyFull .flowing).su.ownFlow) := by
  decide

/-- A position record in a debounce state, in a class and a press state, at a code. -/
def keyAt (c : Nat) (d : Debounce) (k : KeyClass) (p : PressState) : State :=
  ringed.withKs { ringed.ks with records := ringed.ks.records.set c ⟨d, k, p, 0x41⟩ }

/-- The repeat timer serving a held key with a value. -/
def repeating (d : Debounce) (v : Option Byte) : State :=
  (keyAt 5 d .admitted .known).withKs { (keyAt 5 d .admitted .known).ks with held := [⟨5, v⟩], rep := some ⟨5, 0, 10⟩ }

theorem test_witness_KeysArePolled :
    (ringed.mp.resetHeld = false ∧ ringed.ks.scanMode = .matrix ∧ ringed.ks.records.length = 80) ∧
    ringed.ks.records[79]? = some clearRecord ∧
    (held.mp.resetHeld = true ∧ (ringed.withKs { ringed.ks with scanMode := .wake }).ks.scanMode = .wake) ∧
    ringed.ks.rep = none ∧
    (∀ d ∈ [Debounce.down, .opening1], ∀ v ∈ [none, some (0x7F : Byte), some 0x80, some 0x82],
      (repeating d v).ks.rep = some ⟨5, 0, 10⟩ ∧ ((repeating d v).ks.records.getD 5 clearRecord).debounce = d ∧
        ((repeating d v).ks.held.find? (fun h => h.code == 5)).bind HeldKey.value = v) ∧
    ((0x7F : Byte).toNat ≤ 0x7F ∧ 0x7F < (0x80 : Byte).toNat ∧ (0x80 : Byte) ≠ 0x82) := by decide +kernel

/-- Codes 0, 1 and 10 DOWN, so that 11 closes a rectangle. -/
def corners : State := ringed.withKs { ringed.ks with
  records := (List.range 80).map (fun c => if c = 0 ∨ c = 1 ∨ c = 10 then { clearRecord with debounce := .down } else clearRecord) }

/-- Whether three further corners of a rectangle through `c` are held. -/
abbrev phantomAt (s : State) (later : List Nat) (c : Nat) : Prop :=
  ∃ r2, r2 < 8 ∧ ∃ c2, c2 < 10 ∧ r2 ≠ c / 10 ∧ c2 ≠ c % 10 ∧ ∀ p ∈ [(c / 10, c2), (r2, c % 10), (r2, c2)],
    (s.ks.records.getD (p.1 * 10 + p.2) clearRecord).debounce ∈ [Debounce.down, .opening1, .opening2] ∧ p.1 * 10 + p.2 ∉ later

theorem test_witness_KeysAreAdmittedAndReleased :
    (phantomAt corners [] 11 ∧ ¬phantomAt corners [10] 11 ∧ ∀ c ∈ [0, 77, 78, 79], ¬phantomAt ringed [] c ∧ c < 80) ∧
    (ringed.ks.held.length < 4 ∧ 4 ≤ (ringed.withKs { ringed.ks with held := List.replicate 4 ⟨9, none⟩ }).ks.held.length) ∧
    (∀ c ∈ [0, 77, 78, 79], ((keyAt c .opened .admitted .known).ks.records.getD c clearRecord).cls = .admitted ∧
      ((keyAt c .opened .suppressed .known).ks.records.getD c clearRecord).cls = .suppressed) := by decide

/-- The key FIFO with `n` events of a value source. -/
def queued (n : Nat) (v : ValueSource) : State :=
  ringed.withKs { ringed.ks with fifo := List.replicate n ⟨5, .press, 0, v, none, 0⟩ }

theorem test_witness_KeyEventsAreProcessed :
    (queued 7 .lookup).ks.fifo.length < 8 ∧ 8 ≤ (queued 8 .lookup).ks.fifo.length ∧
    (∀ v ∈ [ValueSource.lookup, .fixed 0xF0, .fromPress], (queued 1 v).cbm.geometry = some rings ∧
      (queued 1 v).ks.fifo = ⟨5, .press, 0, v, none, 0⟩ :: [] ∧ (queued 1 v).ks.proc = .none ∧
      ((queued 1 v).ks.producer + 1) % rings.keyCap.toNat ≠ (queued 1 v).ks.consumerCopy) ∧
    (ready.cbm.geometry = none ∧ ringed.ks.fifo = [] ∧ (keyed .lookupWait).ks.proc ≠ .none ∧
      (7 + 1) % rings.keyCap.toNat = ringed.ks.consumerCopy) := by decide

theorem test_witness_WakePassWakes :
    (held.mp.resetHeld = true ∧ ringed.ks.scanMode = .matrix) ∧
    (let s := asleep.withKs { asleep.ks with scanMode := .wake };
      s.mp.resetHeld = false ∧ s.ks.scanMode = .wake ∧ s.ks.records.length = 80 ∧ s.ks.records[79]? = some clearRecord) ∧
    (∀ c < 80, (0 : BitVec 80).getLsbD c = false) ∧
    (∀ w ∈ [0, 78, 79], w < 80 ∧ (BitVec.twoPow 80 w).getLsbD w = true ∧ ∀ c < w, (BitVec.twoPow 80 w).getLsbD c = false) := by
  decide

/-- The key-transmit FIFO with `n` characters. -/
def keyChars (n : Nat) : State := (receiving .hunt).withLu { (receiving .hunt).lu with keyTx := List.replicate n 0x41 }

theorem test_witness_DirectKeyActions :
    ((0x7F : Byte).toNat ≤ 0x7F ∧ (setTo ringed (fun t => { t with localCopy := true })).cbm.settings.localCopy = true ∧
      ringed.lu.lineState = .off ∧ ringed.cbm.settings.localCopy = false ∧ (receiving .hunt).lu.lineState ≠ .off) ∧
    (16 ≤ (keyChars 16).lu.keyTx.length ∧ (keyChars 0).lu.keyTx = [] ∧ (keyChars 15).lu.keyTx ≠ [] ∧
      (keyChars 15).lu.keyTx.length < 16) ∧
    (ringed.lu.lineState ≠ .online ∧ (receiving .hunt).lu.lineState = .online) ∧
    ((asked .burn .inRow).ps.holdRequest = true ∧ ringed.ps.holdRequest = false) ∧ 0x83 ≤ (0x83 : Byte).toNat := by decide

/-- The line cache in a state with the queue's producer given. -/
def caching (c : Cache) (prod : Nat) : State :=
  (ringed.withPs { ringed.ps with cache := c }).withCbm { ringed.cbm with pqProd := prod }

theorem test_witness_EngineNeedsTheCache :
    ((caching .empty 1).ps.cache = .empty ∧ canFetch (caching .empty 1) = true) ∧ canFetch (caching .empty 0) = false ∧
    (∀ c ∈ [Cache.fetching 0 [], .loading 0 dots2 blankImage 0, .bad 0, .ready 0 dots2 blankImage],
      (caching c 1).ps.cache = c) ∧
    (ringed.ps.engine = .idle ∧ (engineIn .burn).ps.engine ≠ .idle ∧ (engineIn .burn).ps.engine ≠ .waitCache) ∧
    ((inRow 48 22).ps.latch.isSome = true ∧ ringed.ps.latch = none ∧ ringed.ps.localFeeds = 0 ∧
      0 < (ringed.withPs { ringed.ps with localFeeds := 15 }).ps.localFeeds) := by decide

/-- A latch and a reading to come. -/
def starting (k : PrintKind) (millivolts heat : Nat) : State :=
  ((ringed.withPs { ringed.ps with latch := some (latchOf k) }).withEnv
    { ringed.env with senseIn := [⟨millivolts, 22000⟩] }).withHm ⟨[heat, 0, 0, 0, 0, 0, 0, 0], 0, none, .none⟩

theorem test_witness_RowStarts :
    (∀ p ∈ [(PrintKind.feed, 4800, 0, some 48, false), (.dots, 4399, 0, some 43, false), (.dots, 4400, 528, some 44, true),
        (.dots, 4400, 527, some 44, false), (.again, 4800, 0, some 48, false)],
      let s := starting p.1 p.2.1 p.2.2.1;
      s.ps.latch = some (latchOf p.1) ∧
        (let u := takeReading (s.withPs { s.ps with rowKind := some .burning, row := some row });
        u.sm.supply = p.2.2.2.1 ∧ u.hotAt row.warn = p.2.2.2.2)) := by decide

theorem test_witness_PlanPoint :
    (let s := (inRow 48 22).withPs { (inRow 48 22).ps with holdRequest := true };
      s.ps.row = some row ∧ s.ps.holdRequest = true) ∧
    ((inRow 48 22).ps.row = some row ∧ (inRow 48 22).ps.holdRequest = false ∧
      (makePlan (inRow 48 22) { row with decision := some none } none).phases = []) ∧
    (let s := (inRow 48 22).withPs { (inRow 48 22).ps with latchImage := blankImage.set 71 0x01 };
      s.ps.holdRequest = false ∧ (makePlan s { row with decision := some none } none).phases ≠ []) := by decide

theorem test_witness_PlansAndPulses :
    (blankImage.length = 72 ∧ (blankImage.set 71 0x01).length = 72 ∧ 7 < 8) ∧
    [[0], [1]] <:+: plan.phases ∧ (pulseOf plan 200 0).full = 521 := by decide

theorem test_witness_PhasesBurn :
    ((halted 736).hotAt row.stop = true ∧ (halted 735).hotAt row.stop = false) ∧
    (blankImage.length = 72 ∧ 71 < 72) ∧
    (burning.sp.pulses.find? (fun p => p.segment == (0 : Fin 8).val) = some ⟨0, 521, 325⟩ ∧ burning.sp.phaseStart = some 0 ∧
      burning.sp.plan = some plan ∧ burning.ps.row = some row ∧ plan.current + 1 < plan.phases.length ∧
      burning.ps.holdRequest = false) ∧
    (burning.sp.pulses.find? (fun p => p.segment == (7 : Fin 8).val) = none ∧ ringed.sp.phaseStart = none) ∧
    (burning.withPs { burning.ps with holdRequest := true }).ps.holdRequest = true ∧
    (let s := burning.withSp { burning.sp with plan := some { plan with current := 1 } };
      s.sp.plan = some { plan with current := 1 } ∧ plan.phases.length ≤ 1 + 1) := by decide

theorem test_witness_StepGateAndForcedStep :
    (let s := stepWaiting .hunt;
      (s.cbm.settings.stepGate = .always ∧ s.lu.lineState = .online) ∧ s.lu.idleMark = true ∧ s.pd.gateWait = some 0 ∧
        s.lu.receiver = .hunt) ∧
    (stepWaiting (frameOf 3)).lu.receiver = frameOf 3 ∧ ringed.lu.lineState ≠ .online ∧ ringed.pd.gateWait = none := by decide

/-- A step under way, the row of a kind, with a latch, a hold, a cancel and local feeds given. -/
def stepping (k : RowKind) (l : Option Latch) (hold : Bool) (c : Option CancelRequest) (feeds : Nat) : State :=
  (ringed.withPd ⟨.stepping, some 0, none, 3⟩).withPs { ringed.ps with
    engine := .step, rowKind := some k, latch := l, holdRequest := hold, cancel := c, localFeeds := feeds }

theorem test_witness_StepCompletesTheRow :
    ringed.pd.stepStart = none ∧
    (let s := stepping .burning (some ⟨0, .dots, 1, none⟩) true (some ⟨1, false⟩) 0;
      s.pd.stepStart = some 0 ∧ s.ps.cancel.isSome = true) ∧
    (let s := stepping .burning (some ⟨0, .dots, 1, none⟩) true none 0;
      s.ps.cancel = none ∧ s.ps.holdRequest = true) ∧
    (let s := stepping .burning (some ⟨0, .dots, 2, none⟩) false none 0;
      s.ps.cancel = none ∧ s.ps.holdRequest = false ∧ s.ps.rowKind = some .burning ∧ s.ps.latch = some ⟨0, .dots, 2, none⟩ ∧
        ¬(2 : Nat) ≤ 1) ∧
    (let s := stepping .localFeed none false none 1;
      s.ps.cancel = none ∧ s.ps.holdRequest = false ∧ s.ps.latch = none ∧ 0 < s.ps.localFeeds) ∧
    (let s := stepping .latchFeed (some ⟨0, .feed, 1, none⟩) false none 0;
      s.ps.cancel = none ∧ s.ps.holdRequest = false ∧ s.ps.latch = some ⟨0, .feed, 1, none⟩ ∧ (1 : Nat) ≤ 1 ∧
        s.ps.localFeeds = 0) := by decide

/-- A row that paces or waits for cooling, with the estimate of segment 0 given. -/
def cooling (e : Engine) (h : Halt) (heat : Nat) : State :=
  ((inRow 48 22).withPs { (inRow 48 22).ps with engine := e }).withHm ⟨[heat, 0, 0, 0, 0, 0, 0, 0], 0, some 0, h⟩

theorem test_witness_HeatIsGainedAndLost :
    (plan.counts.find? (fun x => x.segment == (0 : Nat)) = some ⟨0, 42, 30, 12⟩ ∧ 0 < 1) ∧ ringed.ps.row = none ∧
    (∀ p ∈ [(Engine.coolPace, Halt.none), (.hotHalt, .coolWait), (.burn, .none)], ∀ h ∈ [(562, false), (563, true)],
      let s := cooling p.1 p.2 h.1;
      s.ps.row = some row ∧ s.ps.engine = p.1 ∧ s.hm.halt = p.2 ∧ s.hm.pacing = some 0 ∧
        (s.withHm { s.hm with estimates := s.hm.estimates.map cooled }).hotAt row.warn = h.2) ∧
    ringed.hm.pacing = none ∧ ((inRow 44 22).sm.supply = some 44 ∧ 44 ≤ 44) ∧ ((inRow 43 22).sm.supply = some 43 ∧ 43 < 44) := by
  decide

/-- BATTERY_HOLD with the reading timer running, a reading to come and the estimate of segment 0. -/
def batteryHeld (atStart : Bool) (millivolts heat : Nat) : State :=
  (((((inRow 40 22).withPs { (inRow 40 22).ps with engine := .batteryHold, row := some { row with batteryAtStart := atStart } }).withSm
    ⟨some 40, some 22, some 0⟩).withEnv { ringed.env with senseIn := [⟨millivolts, 22000⟩] }).withHm
      ⟨[heat, 0, 0, 0, 0, 0, 0, 0], 0, none, .none⟩)

theorem test_witness_ReadingsOfSupplyAndHead :
    ((batteryHeld true 4599 0).env.senseIn = ⟨4599, 22000⟩ :: [] ∧ ringed.env.senseIn = []) ∧
    ringed.sm.readingTimer = none ∧
    (∀ p ∈ [(true, 4599, 0, 45), (true, 4600, 528, 46), (true, 4600, 527, 46), (false, 4600, 528, 46)],
      let s := batteryHeld p.1 p.2.1 p.2.2.1;
      s.sm.readingTimer = some 0 ∧ s.ps.engine = .batteryHold ∧
        (takeReading (atTime (0 + 100000) s)).sm.supply = some p.2.2.2 ∧
        s.ps.row = some { row with batteryAtStart := p.1 }) ∧
    ((45 : Nat) < 46 ∧ (46 : Nat) ≤ 46) ∧ ringed.ps.engine ≠ .batteryHold := by decide

theorem test_witness_EveryStepKeepsMemoryCanonical :
    (ringed.withMem [⟨0x1234, 0x5A⟩]).mem.wf = true ∧
    step (ringed.withMem [⟨0x1234, 0x5A⟩]) = .next (after (step (ringed.withMem [⟨0x1234, 0x5A⟩]))) :=
  ⟨by decide, rfl⟩

theorem test_witness_EveryStepKeepsPartPagesOutOfTheWindows :
    PartPagesClear windowed ∧ step windowed = .next (after (step windowed)) := by
  exact ⟨⟨by decide, by decide +kernel⟩, rfl⟩

theorem test_witness_EveryStepKeepsItsBounds :
    HeatBounded ringed ∧ SettingsInRange ringed.cbm.settings ∧ Bounded ringed ∧ CountsBounded (waitingAt 8 16) ∧
    (atPhase 999999 (sendingBit 0)).env.tonePhase < 1000000 ∧ step ringed = .next (after (step ringed)) := by
  refine ⟨by unfold HeatBounded; decide, by unfold SettingsInRange; decide, ?_, by unfold CountsBounded; decide, by decide, rfl⟩
  unfold Bounded LineUnit.bounded StreamUnit.bounded KeyScanner.bounded PrintSequencer.bounded StrobePlanner.bounded
    PaperDrive.bounded ControlBlock.bounded
  and_intros <;> first | decide | (intro q h; cases h) | trivial

end Sys2Proof.Tests
end

section
/-! PROOFS. The transmit arbiter (R84 to R91, R107): what a boundary is, when each source is eligible, and the choice, one
lemma per row of R85's table. -/

namespace Sys2Proof.Machine

open Sys2Proof

/-! ## Boundaries and eligible sources -/

theorem atBoundary_iff (s : State) :
    atBoundary s = true ↔ s.lu.lineState = .online ∧ s.lu.txOp = none ∧ s.lu.ringFetch ≠ .readWait := by
  simp [atBoundary, and_assoc]

theorem boundary_of_atBoundary {s : State} (h : atBoundary s = true) : boundary s = chooseSource s := if_pos h

theorem boundary_of_not_atBoundary {s : State} (h : atBoundary s = false) : boundary s = s :=
  if_neg (by simp [h])

theorem flowAsked_iff (s : State) :
    flowAsked s = true ↔ s.su.ownFlow = .stopAsked ∨ s.su.ownFlow = .goAsked := by
  simp [flowAsked]

theorem flowAsked_eq_false_iff (s : State) :
    flowAsked s = false ↔ s.su.ownFlow ≠ .stopAsked ∧ s.su.ownFlow ≠ .goAsked := by
  simp [flowAsked]

theorem ringEligible_iff (s : State) :
    ringEligible s = true ↔
      s.cbm.geometry.isSome = true ∧ s.cbm.txProd ≠ s.lu.txCons ∧ s.lu.remoteHold = false ∧ s.lu.ringFetch = .none := by
  simp [ringEligible, State.ringsSet, and_assoc]

theorem ringEligible_eq_false_iff (s : State) :
    ringEligible s = false ↔
      s.cbm.geometry = none ∨ s.cbm.txProd = s.lu.txCons ∨ s.lu.remoteHold = true ∨ s.lu.ringFetch ≠ .none := by
  rw [← Bool.not_eq_true, ringEligible_iff, Option.isSome_iff_ne_none]
  simp only [ne_eq, not_and_or, not_not, Bool.not_eq_false]

/-! ## The rows of R85's table, in their order -/

/-- Source 1, where SU asks for its stop character (R86, R107). -/
theorem chooseSource_of_stopAsked {s : State} (h : s.su.ownFlow = .stopAsked) :
    chooseSource s = startCharacter s.cbm.settings.xoffChar (s.withSu { s.su with ownFlow := .stopped }) := by
  have hask : flowAsked s = true := (flowAsked_iff s).2 (.inl h)
  rw [chooseSource, if_pos hask, takeFlow, h]

/-- Source 1, where SU asks for its go character (R86, R107). -/
theorem chooseSource_of_goAsked {s : State} (h : s.su.ownFlow = .goAsked) :
    chooseSource s = startCharacter s.cbm.settings.xonChar (s.withSu { s.su with ownFlow := .flowing }) := by
  have hask : flowAsked s = true := (flowAsked_iff s).2 (.inr h)
  rw [chooseSource, if_pos hask, takeFlow, h]

/-- Source 2: the break (R87). -/
theorem chooseSource_of_breakReq {s : State} (hf : flowAsked s = false) (hb : s.lu.breakReq = true) :
    chooseSource s = s.withLu { s.lu with txOp := some (.breakSpace s.env.now) } := by
  rw [chooseSource, if_neg (by simp [hf]), if_pos hb]

/-- Source 3: the key-transmit FIFO while no remote hold is on (R90, R91). -/
theorem chooseSource_of_keyTx {s : State} {c : Byte} {rest : List Byte} (hf : flowAsked s = false)
    (hb : s.lu.breakReq = false) (hk : s.lu.keyTx = c :: rest) (hr : s.lu.remoteHold = false) :
    chooseSource s = takeKeyChar c rest s := by
  rw [chooseSource, if_neg (by simp [hf]), if_neg (by simp [hb]), hk, hr]

/-- Past the key-transmit FIFO only source 4, the host's ring, is left (R89). -/
theorem chooseSource_past_keyTx {s : State} (hf : flowAsked s = false) (hb : s.lu.breakReq = false)
    (hk : s.lu.keyTx = [] ∨ s.lu.remoteHold = true) :
    chooseSource s = if ringEligible s then s.withLu { s.lu with ringFetch := .readWait } else s := by
  rw [chooseSource, if_neg (by simp [hf]), if_neg (by simp [hb])]
  split
  next hkey hhold => simp [hkey, hhold] at hk
  next => rfl

theorem chooseSource_of_ringEligible {s : State} (hf : flowAsked s = false) (hb : s.lu.breakReq = false)
    (hk : s.lu.keyTx = []) (he : ringEligible s = true) :
    chooseSource s = s.withLu { s.lu with ringFetch := .readWait } := by
  rw [chooseSource_past_keyTx hf hb (.inl hk), if_pos he]

theorem chooseSource_of_no_source {s : State} (hf : flowAsked s = false) (hb : s.lu.breakReq = false)
    (hk : s.lu.keyTx = [] ∨ s.lu.remoteHold = true) (he : ringEligible s = false) : chooseSource s = s := by
  rw [chooseSource_past_keyTx hf hb hk, if_neg (by simp [he])]

end Sys2Proof.Machine

namespace Sys2Proof.Proofs

open Sys2Proof Sys2Proof.Machine

/-- Settles O34: off a boundary nothing is taken; at one, R85's table is the rows of `chooseSource` above, in their order. -/
theorem transmitArbiterChoice : Obligations.TransmitArbiterChoice := by
  intro s start free
  refine ⟨atBoundary_iff s, boundary_of_not_atBoundary, fun hat => ?_⟩
  have hfree (h : free) : flowAsked s = false := (flowAsked_eq_false_iff s).2 h
  rw [boundary_of_atBoundary hat]
  refine ⟨chooseSource_of_stopAsked, chooseSource_of_goAsked, fun hf => chooseSource_of_breakReq (hfree hf),
    fun c rest hf hb hk hr => ?key, fun hf hb hk hr hg hp hn => ?ring, fun hf hb hnone => ?none⟩
  case key => exact chooseSource_of_keyTx (hfree hf) hb hk hr
  case ring => exact chooseSource_of_ringEligible (hfree hf) hb hk ((ringEligible_iff s).2 ⟨hg, hp, hr, hn⟩)
  case none =>
    obtain hhold | ⟨hk, hring⟩ := hnone
    · have he : ringEligible s = false := (ringEligible_eq_false_iff s).2 (.inr (.inr (.inl hhold)))
      exact chooseSource_of_no_source (hfree hf) hb (.inr hhold) he
    · have he : ringEligible s = false := (ringEligible_eq_false_iff s).2 (by tauto)
      exact chooseSource_of_no_source (hfree hf) hb (.inl hk) he

end Sys2Proof.Proofs
end

section
/-! PROOFS. The stream (R96 to R98, R100) and the part's own flow (R104 to R106, R108): what an arrival, a loss, a LOST marker
and the start of a deposit do, then the two tables of an own-flow evaluation, one lemma per row that depends on a level. -/

namespace Sys2Proof.Machine

open Sys2Proof

/-! ## Applied geometry -/

theorem geo_of_geometry {s : State} {g : Geometry} (h : s.cbm.geometry = some g) (field : Geometry → Byte) :
    s.geo field = (field g).toNat := by
  rw [State.geo, h]

theorem ringsSet_of_geometry {s : State} {g : Geometry} (h : s.cbm.geometry = some g) : s.ringsSet = true := by
  rw [State.ringsSet, h, Option.isSome_some]

theorem ringsSet_of_unset {s : State} (h : s.cbm.geometry = none) : s.ringsSet = false := by
  rw [State.ringsSet, h, Option.isSome_none]

/-! ## Deposits (R100) -/

theorem streamFull_iff {s : State} {g : Geometry} (h : s.cbm.geometry = some g) :
    streamFull s = true ↔ (s.su.producer + 1) % g.rxCap.toNat = s.su.consumerCopy := by
  rw [streamFull, beq_iff_eq, geo_of_geometry h, ringNext]

/-- R100's four conditions, in its order. -/
theorem tryDeposit_eq (s : State) :
    tryDeposit s = if s.ringsSet = true ∧ s.su.staging ≠ [] ∧ s.su.deposit = .none ∧ streamFull s = false then
      s.withSu { s.su with deposit := .byte0Wait } else s := by
  simp only [tryDeposit, Bool.and_eq_true, Bool.not_eq_true', List.isEmpty_eq_false_iff, beq_iff_eq, and_assoc, ne_eq]

theorem tryDeposit_of_begins {s : State} {g : Geometry} (hg : s.cbm.geometry = some g) (hstaged : s.su.staging ≠ [])
    (hnone : s.su.deposit = .none) (hroom : (s.su.producer + 1) % g.rxCap.toNat ≠ s.su.consumerCopy) :
    tryDeposit s = s.withSu { s.su with deposit := .byte0Wait } := by
  have hfull : streamFull s = false := Bool.eq_false_iff.2 (mt (streamFull_iff hg).1 hroom)
  rw [tryDeposit_eq, if_pos ⟨ringsSet_of_geometry hg, hstaged, hnone, hfull⟩]

theorem tryDeposit_of_waits {s : State} {g : Geometry} (hg : s.cbm.geometry = some g)
    (hwaits : s.su.staging = [] ∨ s.su.deposit ≠ .none ∨
      (s.su.producer + 1) % g.rxCap.toNat = s.su.consumerCopy) : tryDeposit s = s := by
  rw [tryDeposit_eq, if_neg]
  rintro ⟨-, hstaged, hnone, hfull⟩
  obtain hempty | hbusy | heq := hwaits
  · exact hstaged hempty
  · exact hbusy hnone
  · simp [(streamFull_iff hg).2 heq] at hfull

theorem tryDeposit_of_unset {s : State} (h : s.cbm.geometry = none) : tryDeposit s = s := by
  rw [tryDeposit_eq, if_neg]
  rintro ⟨hset, -⟩
  simp [ringsSet_of_unset h] at hset

/-! ## Arrivals, losses and the LOST marker (R96 to R98) -/

theorem arrive_of_room (e : Entry) (s : State) (h : s.su.staging.length < 8) :
    arrive e s = tryDeposit (s.withSu { s.su with staging := s.su.staging ++ [e] }) := if_pos h

theorem arrive_of_full (e : Entry) (s : State) (h : 8 ≤ s.su.staging.length) : arrive e s = countLost s :=
  if_neg (Nat.not_lt.2 h)

/-- STREAM_LOST is bit 4 of the low flag word (2.8.5). -/
theorem setFlag_streamLost (s : State) :
    setFlag .streamLost s = s.withCbm { s.cbm with flagsLo := s.cbm.flagsLo ||| 0x10 } := rfl

theorem countLost_eq (s : State) : countLost s = (s.withSu { s.su with
      lostCount := if s.su.lostCount < 255 then s.su.lostCount + 1 else s.su.lostCount
      lostTotal := if s.su.lostTotal < 65535 then s.su.lostTotal + 1 else s.su.lostTotal }).withCbm
        { s.cbm with flagsLo := s.cbm.flagsLo ||| 0x10 } := by
  rw [countLost, setFlag_streamLost, withSu_cbm, satSucc, satSucc]

theorem placeLost_of_room (s : State) (hlost : 0 < s.su.lostCount) (hroom : s.su.staging.length < 8) :
    placeLost s = s.withSu { s.su with staging := s.su.staging ++ [.mark .lost s.su.lostCount], lostCount := 0 } :=
  if_pos ⟨hlost, hroom⟩

theorem placeLost_of_none_lost_or_full (s : State) (h : s.su.lostCount = 0 ∨ 8 ≤ s.su.staging.length) :
    placeLost s = s :=
  if_neg (by omega)

/-- A lost entry of LU is counted whatever the staging; its marker and a deposit follow in the same event (R97). -/
theorem arriveLost_eq (s : State) : arriveLost s = tryDeposit (placeLost (countLost s)) := rfl

/-! ## The three numbers of an evaluation (R104) -/

theorem freeSlots_of_geometry {s : State} {g : Geometry} (h : s.cbm.geometry = some g) :
    freeSlots s =
      (g.rxCap.toNat - 1) - (s.su.producer + g.rxCap.toNat - s.su.consumerCopy) % g.rxCap.toNat := by
  rw [freeSlots, geo_of_geometry h, ringDiff]

theorem xonLevel_of_geometry {s : State} {g : Geometry} (h : s.cbm.geometry = some g) :
    xonLevel s = min s.cbm.settings.xonFree (g.rxCap.toNat - 1) := by
  rw [xonLevel, geo_of_geometry h]

theorem xoffLevel_of_geometry {s : State} {g : Geometry} (h : s.cbm.geometry = some g) :
    xoffLevel s = min s.cbm.settings.xoffFree (min s.cbm.settings.xonFree (g.rxCap.toNat - 1) - 2) := by
  rw [xoffLevel, xonLevel_of_geometry h]

/-! ## The own-flow tables (R106, R108) -/

theorem ownFlowNext_of_flowing {s : State} (hon : s.cbm.settings.txFlow = true) (h : s.su.ownFlow = .flowing) :
    ownFlowNext s = if freeSlots s ≤ xoffLevel s then .stopAsked else .flowing := by
  rw [ownFlowNext, if_pos hon, h]

theorem ownFlowNext_of_stopAsked {s : State} (hon : s.cbm.settings.txFlow = true) (h : s.su.ownFlow = .stopAsked) :
    ownFlowNext s = if xonLevel s ≤ freeSlots s then .flowing else .stopAsked := by
  rw [ownFlowNext, if_pos hon, h]

theorem ownFlowNext_of_stopped {s : State} (hon : s.cbm.settings.txFlow = true) (h : s.su.ownFlow = .stopped) :
    ownFlowNext s = if xonLevel s ≤ freeSlots s then .goAsked else .stopped := by
  rw [ownFlowNext, if_pos hon, h]

theorem ownFlowNext_of_goAsked {s : State} (hon : s.cbm.settings.txFlow = true) (h : s.su.ownFlow = .goAsked) :
    ownFlowNext s = if freeSlots s ≤ xoffLevel s then .stopped else .goAsked := by
  rw [ownFlowNext, if_pos hon, h]

/-- R108: with TX_FLOW off the levels play no part; what was asked to stop flows again, and what was stopped is asked to go. -/
theorem ownFlowNext_of_txFlow_off {s : State} (hoff : s.cbm.settings.txFlow = false) :
    ownFlowNext s = match s.su.ownFlow with
      | .flowing => .flowing | .stopAsked => .flowing | .stopped => .goAsked | .goAsked => .goAsked := by
  cases h : s.su.ownFlow <;> rw [ownFlowNext, if_neg (by simp [hoff]), h]

/-! ## Evaluations (R84, R105) -/

theorem evaluateFlow_of_not_online (s : State) (h : s.lu.lineState ≠ .online) : evaluateFlow s = s := if_neg h

theorem evaluateFlow_of_same (s : State) (honline : s.lu.lineState = .online)
    (hsame : ownFlowNext s = s.su.ownFlow) : evaluateFlow s = s := by
  rw [evaluateFlow, if_pos honline, if_pos hsame]

/-- A change that raises a request is a boundary; a change that withdraws one is not. -/
theorem evaluateFlow_of_change (s : State) (honline : s.lu.lineState = .online)
    (hchange : ownFlowNext s ≠ s.su.ownFlow) :
    evaluateFlow s =
      let u := s.withSu { s.su with ownFlow := ownFlowNext s }
      if ownFlowNext s = .stopAsked ∨ ownFlowNext s = .goAsked then boundary u else u := by
  rw [evaluateFlow, if_pos honline, if_neg hchange]
  simp only [flowAsked_iff, withSu_su]

end Sys2Proof.Machine

namespace Sys2Proof.Proofs

open Sys2Proof Sys2Proof.Machine

/-- Settles O35: each clause is the lemma above for its case of staging (7 or 8 entries), of the lost count, or of R100's
conditions. -/
theorem streamArrivals : Obligations.StreamArrivals :=
  ⟨arrive_of_room, arrive_of_full, countLost_eq, arriveLost_eq, placeLost_of_room, placeLost_of_none_lost_or_full,
    fun _ _ => tryDeposit_of_begins, fun _ _ => tryDeposit_of_waits, fun _ => tryDeposit_of_unset⟩

/-- Settles O36: the three numbers written out in the statement are those of R104 above, and then each row of the two
tables is its lemma above. -/
theorem ownFlowEvaluation : Obligations.OwnFlowEvaluation := by
  refine ⟨fun s g hg => ?tables, evaluateFlow_of_not_online, evaluateFlow_of_same, evaluateFlow_of_change⟩
  case tables =>
    intro free xon xoff
    have hfree : free = freeSlots s := (freeSlots_of_geometry hg).symm
    have hxon : xon = xonLevel s := (xonLevel_of_geometry hg).symm
    have hxoff : xoff = xoffLevel s := (xoffLevel_of_geometry hg).symm
    rw [hfree, hxon, hxoff]
    exact ⟨fun hon => ⟨ownFlowNext_of_flowing hon, ownFlowNext_of_stopAsked hon, ownFlowNext_of_stopped hon,
      ownFlowNext_of_goAsked hon⟩, ownFlowNext_of_txFlow_off⟩

end Sys2Proof.Proofs
end

section
/-! PROOFS. The direct actions of a mapped value (R127): the value's row of R127's table, then what each row's action does: a
key break (R87, R88), a character handed on (R90, R128), the HOLD key (R148) and a paper feed (R146). -/

namespace Sys2Proof.Machine

open Sys2Proof

/-! ## The rows of R127's table -/

theorem directAction_of_character {v : Byte} (h : v.toNat ≤ 0x7F) (s : State) :
    directAction v s = handCharacter v s := if_pos h

theorem directAction_break (s : State) : directAction 0x80 s = keyBreak s := by
  rw [directAction, if_neg (by decide), if_pos rfl]

theorem directAction_hold (s : State) : directAction 0x81 s = toggleHold s := by
  rw [directAction, if_neg (by decide), if_neg (by decide), if_pos rfl]

theorem directAction_paper (s : State) : directAction 0x82 s = localFeed s := by
  rw [directAction, if_neg (by decide), if_neg (by decide), if_neg (by decide), if_pos rfl]

theorem directAction_of_no_action {v : Byte} (h : 0x83 ≤ v.toNat) (s : State) : directAction v s = s := by
  have hne (b : Byte) (hb : b.toNat < 0x83) : v ≠ b := by
    rintro rfl
    omega
  rw [directAction, if_neg (by omega), if_neg (hne 0x80 (by decide)), if_neg (hne 0x81 (by decide)),
    if_neg (hne 0x82 (by decide))]

/-! ## A character handed on (R90, R128) -/

theorem handCharacter_of_localCopy (v : Byte) {s : State} (hcopy : s.cbm.settings.localCopy = true)
    (hoff : s.lu.lineState = .off) : handCharacter v s = arrive (.echo v) s := if_pos ⟨hcopy, hoff⟩

theorem handCharacter_to_line (v : Byte) {s : State}
    (h : s.cbm.settings.localCopy = false ∨ s.lu.lineState ≠ .off) : handCharacter v s = enqueueKey v s := by
  refine if_neg ?_
  rintro ⟨hcopy, hoff⟩
  obtain hno | hon := h
  · simp [hcopy] at hno
  · exact hon hoff

/-- KEY_TX_LOST is bit 6 of the low flag word (2.8.5). -/
theorem setFlag_keyTxLost (s : State) :
    setFlag .keyTxLost s = s.withCbm { s.cbm with flagsLo := s.cbm.flagsLo ||| 0x40 } := rfl

theorem enqueueKey_of_full (c : Byte) {s : State} (h : 16 ≤ s.lu.keyTx.length) :
    enqueueKey c s = s.withCbm { s.cbm with flagsLo := s.cbm.flagsLo ||| 0x40 } := by
  rw [enqueueKey, if_neg (Nat.not_lt.2 h), setFlag_keyTxLost]

/-- A character that enters an empty FIFO is a boundary (R84). -/
theorem enqueueKey_of_empty (c : Byte) {s : State} (h : s.lu.keyTx = []) :
    enqueueKey c s = boundary (s.withLu { s.lu with keyTx := [c] }) := by
  simp only [enqueueKey, h, List.length_nil, Nat.zero_lt_succ, if_true, List.isEmpty_nil, List.nil_append]

theorem enqueueKey_of_room (c : Byte) {s : State} (hsome : s.lu.keyTx ≠ []) (hroom : s.lu.keyTx.length < 16) :
    enqueueKey c s = s.withLu { s.lu with keyTx := s.lu.keyTx ++ [c] } := by
  have hempty : ¬ s.lu.keyTx.isEmpty = true := mt List.isEmpty_iff.1 hsome
  rw [enqueueKey, if_pos hroom, if_neg hempty]

/-! ## A break asked for by a key (R87, R88) -/

theorem inBreakSpace_iff (l : LineUnit) : inBreakSpace l = true ↔ ∃ start, l.txOp = some (.breakSpace start) := by
  unfold inBreakSpace
  split
  next start hop => simp [hop]
  next hop => simpa using hop

theorem keyBreak_of_not_online {s : State} (h : s.lu.lineState ≠ .online) : keyBreak s = s := if_neg h

theorem keyBreak_of_online {s : State} (h : s.lu.lineState = .online) : keyBreak s = requestBreak s := if_pos h

/-- A request merges with the one that is pending, or with the break that is under way (R87). -/
theorem requestBreak_merges {s : State} (h : s.lu.breakReq = true ∨ ∃ start, s.lu.txOp = some (.breakSpace start)) :
    requestBreak s = s :=
  if_pos (by simpa only [Bool.or_eq_true, inBreakSpace_iff] using h)

theorem requestBreak_pends {s : State} (hreq : s.lu.breakReq = false)
    (hop : ¬ ∃ start, s.lu.txOp = some (.breakSpace start)) :
    requestBreak s = boundary (s.withLu { s.lu with breakReq := true }) :=
  if_neg (by simpa only [hreq, Bool.false_or, inBreakSpace_iff] using hop)

/-! ## The HOLD and PAPER keys (R146, R148) -/

theorem toggleHold_of_holdRequest {s : State} (h : s.ps.holdRequest = true) : toggleHold s = clearHold s := if_pos h

theorem toggleHold_of_no_holdRequest {s : State} (h : s.ps.holdRequest = false) : toggleHold s = setHold s :=
  if_neg (by simp [h])

/-- The count of feeds saturates at 15 (R146). -/
theorem localFeed_eq (s : State) : localFeed s =
    let u := s.withPs { s.ps with localFeeds := if s.ps.localFeeds < 15 then s.ps.localFeeds + 1 else s.ps.localFeeds }
    if (s.ps.engine = .idle ∨ s.ps.engine = .waitCache) ∧ s.cbm.standby = false then startLocalFeed u else u := by
  rw [localFeed, satSucc]

end Sys2Proof.Machine

namespace Sys2Proof.Proofs

open Sys2Proof Sys2Proof.Machine

/-- Settles O44: the value picks its row of R127's table, and each clause is the lemma above for that row's action. -/
theorem directKeyActions : Obligations.DirectKeyActions := by
  intro v s
  refine ⟨fun hv hcopy hoff => ?copy, fun hv hline => ?line, ?breakDropped, ?breakTaken, ?holdCleared, ?holdSet, ?paper,
    fun hv => directAction_of_no_action hv s⟩
  case copy => rw [directAction_of_character hv, handCharacter_of_localCopy v hcopy hoff]
  case line =>
    rw [directAction_of_character hv, handCharacter_to_line v hline]
    exact ⟨enqueueKey_of_full v, enqueueKey_of_empty v, enqueueKey_of_room v⟩
  case breakDropped =>
    rintro rfl hline
    rw [directAction_break, keyBreak_of_not_online hline]
  case breakTaken =>
    rintro rfl hline
    rw [directAction_break, keyBreak_of_online hline]
    split
    next hreq => exact requestBreak_merges (.inl hreq)
    next start _ hop => exact requestBreak_merges (.inr ⟨start, hop⟩)
    next hreq hop => exact requestBreak_pends hreq fun ⟨start, h⟩ => hop start h
  case holdCleared =>
    rintro rfl hheld
    rw [directAction_hold, toggleHold_of_holdRequest hheld]
  case holdSet =>
    rintro rfl hheld
    rw [directAction_hold, toggleHold_of_no_holdRequest hheld]
  case paper =>
    rintro rfl
    rw [directAction_paper, localFeed_eq]

end Sys2Proof.Proofs
end

section
/-! PROOFS. The strobe planner (R158 to R160, R162): a segment's counts as counts over its 72 dots, what the phases of a plan
hold and why each was closed, the plan's own dot counts, and the pulse arithmetic with its clamps as bounds. -/

namespace Sys2Proof.Machine

open Sys2Proof

/-! ## Dots (R138, R159) -/

/-- Dot k of a row image: bit 7 of a byte is its first dot (R138). -/
def dotBit (m : Image) (k : Nat) : Bool := (m.getD (k / 8) 0).getLsbD (7 - k % 8)

/-- The dots of segment i: 72i to 72i + 71 (R138). -/
def segmentDots (i : Nat) : List Nat := (List.range 72).map (fun k => 72 * i + k)

theorem dotBit_blankImage (k : Nat) : dotBit blankImage k = false := by
  have hbyte : blankImage.getD (k / 8) 0 = 0 := by
    simp only [blankImage, List.getD_eq_getElem?_getD, List.getElem?_replicate]
    split <;> rfl
  rw [dotBit, hbyte, BitVec.ofNat_eq_ofNat, BitVec.getLsbD_zero]

/-- Within a byte the dots run from bit 7 down, and a count does not see the order. -/
theorem countP_range_bits_downward (P : Nat → Bool) :
    (List.range 8).countP (fun b => P (7 - b)) = (List.range 8).countP P := by
  have hreverse : (List.range 8).map (fun b => 7 - b) = (List.range 8).reverse := by decide
  calc (List.range 8).countP (fun b => P (7 - b))
      = ((List.range 8).map (fun b => 7 - b)).countP P := (List.countP_map ..).symm
    _ = (List.range 8).countP P := by rw [hreverse, List.countP_reverse]

/-- Counting over the dots of n bytes is summing, byte by byte, the counts over their bits. -/
theorem countP_range_dots (P : Nat → Nat → Bool) (n : Nat) :
    (List.range (8 * n)).countP (fun k => P (k / 8) (7 - k % 8)) =
      ((List.range n).map (fun j => (List.range 8).countP (P j))).sum := by
  induction n with
  | zero => rfl
  | succ n ih =>
    have hbyte : ((List.range 8).map (8 * n + ·)).countP (fun k => P (k / 8) (7 - k % 8)) =
        (List.range 8).countP (P n) := by
      rw [← countP_range_bits_downward, List.countP_map]
      refine List.countP_congr fun b hb => ?_
      have hlt : b < 8 := List.mem_range.1 hb
      have hdiv : (8 * n + b) / 8 = n := by omega
      have hmod : (8 * n + b) % 8 = b := by omega
      simp only [Function.comp_apply, hdiv, hmod]
    rw [Nat.mul_succ, List.range_add, List.countP_append, ih, hbyte, List.range_succ (n := n), List.map_append,
      List.sum_append, List.map_singleton, List.sum_singleton]

theorem countP_segmentDots (P : Nat → Nat → Bool) (i : Nat) :
    (segmentDots i).countP (fun k => P (k / 8) (7 - k % 8)) =
      ((List.range 9).map (fun j => (List.range 8).countP (P (9 * i + j)))).sum := by
  rw [← countP_range_dots (fun j => P (9 * i + j)), segmentDots, List.countP_map]
  refine List.countP_congr fun k _ => ?_
  have hdiv : (72 * i + k) / 8 = 9 * i + k / 8 := by omega
  have hmod : (72 * i + k) % 8 = k % 8 := by omega
  simp only [Function.comp_apply, hdiv, hmod]

theorem onDots_and (x y : Byte) : onDots (x &&& y) = (List.range 8).countP (fun b => x.getLsbD b && y.getLsbD b) := by
  simp only [onDots, BitVec.getLsbD_and]

theorem onDots_and_not (x y : Byte) :
    onDots (x &&& ~~~y) = (List.range 8).countP (fun b => x.getLsbD b && !y.getLsbD b) := by
  refine List.countP_congr fun b hb => ?_
  have hlt : b < 8 := List.mem_range.1 hb
  simp [hlt]

/-! ## The counts of a segment (R159) -/

theorem segmentBytes_length {image : Image} {i : Nat} (hlen : image.length = 72) (hi : i < 8) :
    (segmentBytes image i).length = 9 := by
  rw [segmentBytes, List.length_take, List.length_drop, hlen]
  omega

theorem segmentBytes_eq {image : Image} {i : Nat} (hlen : image.length = 72) (hi : i < 8) :
    segmentBytes image i = (List.range 9).map (fun j => image.getD (9 * i + j) 0) := by
  refine List.ext_getElem (by simp [segmentBytes_length hlen hi]) fun j hj _ => ?_
  rw [segmentBytes_length hlen hi] at hj
  have hlt : 9 * i + j < image.length := by omega
  simp [segmentBytes, hlt]

theorem countSegment_on {image : Image} {i : Nat} (d : HistoryImage) (hlen : image.length = 72) (hi : i < 8) :
    (countSegment image d i).on = (segmentDots i).countP (fun k => dotBit image k) := by
  rw [countSegment, segmentBytes_eq hlen hi, List.map_map]
  exact (countP_segmentDots (fun j b => (image.getD j 0).getLsbD b) i).symm

theorem countSegment_fresh {image old : Image} {i : Nat} (hlen : image.length = 72) (hold : old.length = 72)
    (hi : i < 8) : (countSegment image (some old) i).fresh =
      (segmentDots i).countP (fun k => dotBit image k && !dotBit old k) := by
  simp only [countSegment, historyImage, Option.getD_some, segmentBytes_eq hlen hi, segmentBytes_eq hold hi,
    List.zipWith_map, List.zipWith_self, onDots_and_not]
  exact (countP_segmentDots (fun j b => (image.getD j 0).getLsbD b && !(old.getD j 0).getLsbD b) i).symm

theorem countSegment_held {image old : Image} {i : Nat} (hlen : image.length = 72) (hold : old.length = 72)
    (hi : i < 8) : (countSegment image (some old) i).held =
      (segmentDots i).countP (fun k => dotBit image k && dotBit old k) := by
  simp only [countSegment, historyImage, Option.getD_some, segmentBytes_eq hlen hi, segmentBytes_eq hold hi,
    List.zipWith_map, List.zipWith_self, onDots_and]
  exact (countP_segmentDots (fun j b => (image.getD j 0).getLsbD b && (old.getD j 0).getLsbD b) i).symm

/-- A BLANK history is an image with every dot off (R147). -/
theorem countSegment_blank (image : Image) (i : Nat) :
    countSegment image none i = countSegment image (some blankImage) i := rfl

theorem countSegment_blank_fresh {image : Image} {i : Nat} (hlen : image.length = 72) (hi : i < 8) :
    (countSegment image none i).fresh = (segmentDots i).countP (fun k => dotBit image k) := by
  rw [countSegment_blank, countSegment_fresh hlen (by decide) hi]
  simp only [dotBit_blankImage, Bool.not_false, Bool.and_true]

theorem countSegment_blank_held {image : Image} {i : Nat} (hlen : image.length = 72) (hi : i < 8) :
    (countSegment image none i).held = 0 := by
  rw [countSegment_blank, countSegment_held hlen (by decide) hi]
  simp only [dotBit_blankImage, Bool.and_false, List.countP_false, Function.const_apply]

/-! ## Phase planning (R160)

The six cases of `placeSegments`, in its order: no segment is left, with no phase open or with one; a segment without dots;
a segment that opens the first phase; one that fits in the open phase; one that passes the allowance and so closes it. -/

/-- The phases, one after another, hold the open phase and then every segment with dots, in the order given. -/
theorem placeSegments_flatten (a : Nat) (cs : List SegmentCount) (phase : List Nat) (total : Nat) :
    (placeSegments a cs phase total).flatten =
      phase ++ (cs.filter (fun c => c.on != 0)).map (fun c => c.segment) := by
  fun_induction placeSegments a cs phase total with
  | case1 => rfl
  | case2 => simp
  | case3 c rest phase total hblank ih => simp [ih, hblank]
  | case4 c rest total hdots ih => simp [ih, hdots]
  | case5 c rest total hdots p ps hfits ih => rw [ih]; simp [hdots]
  | case6 c rest total hdots p ps hpasses ih => simp [ih, hdots]

theorem placeSegments_ne_nil (a : Nat) (cs : List SegmentCount) (phase : List Nat) (total : Nat) :
    ∀ q ∈ placeSegments a cs phase total, q ≠ [] := by
  fun_induction placeSegments a cs phase total with
  | case1 => simp
  | case2 phase total hopen => simpa using hopen
  | case3 c rest phase total hblank ih => exact ih
  | case4 c rest total hdots ih => exact ih
  | case5 c rest total hdots p ps hfits ih => exact ih
  | case6 c rest total hdots p ps hpasses ih => exact List.forall_mem_cons.2 ⟨List.cons_ne_nil p ps, ih⟩

/-- The phase that is open stays the first one, and keeps its first segment. -/
theorem placeSegments_head (a : Nat) (cs : List SegmentCount) (phase : List Nat) (total : Nat) (hopen : phase ≠ []) :
    ∀ q ∈ (placeSegments a cs phase total).head?, q.headD 0 = phase.headD 0 := by
  fun_induction placeSegments a cs phase total with
  | case1 => exact absurd rfl hopen
  | case2 => simp
  | case3 c rest phase total hblank ih => exact ih hopen
  | case4 c rest total hdots ih => exact absurd rfl hopen
  | case5 c rest total hdots p ps hfits ih => exact ih (List.cons_ne_nil _ _)
  | case6 c rest total hdots p ps hpasses ih => simp

/-- Phase x, with the dots of the first segment of the phase after it, passes the allowance (R160). -/
def ClosedBy (a : Nat) (f : Nat → Nat) (x y : List Nat) : Prop := a < (x.map f).sum + f (y.headD 0)

/-- A phase is closed only by a segment that does not fit in it (R160): that segment opens the next phase and stays its
first one. -/
theorem placeSegments_isChain {a : Nat} {f : Nat → Nat} (cs : List SegmentCount) (phase : List Nat) (total : Nat)
    (hf : ∀ c ∈ cs, f c.segment = c.on) (ht : (phase.map f).sum = total) :
    List.IsChain (ClosedBy a f) (placeSegments a cs phase total) := by
  fun_induction placeSegments a cs phase total with
  | case1 => exact .nil
  | case2 => exact .singleton _
  | case3 c rest phase total hblank ih => exact ih (List.forall_mem_cons.1 hf).2 ht
  | case4 c rest total hdots ih =>
    obtain ⟨hc, hrest⟩ := List.forall_mem_cons.1 hf
    exact ih hrest (by simp [hc])
  | case5 c rest total hdots p ps hfits ih =>
    obtain ⟨hc, hrest⟩ := List.forall_mem_cons.1 hf
    exact ih hrest (by rw [List.map_append, List.sum_append, ht, List.map_singleton, List.sum_singleton, hc])
  | case6 c rest total hdots p ps hpasses ih =>
    obtain ⟨hc, hrest⟩ := List.forall_mem_cons.1 hf
    refine List.isChain_cons.2 ⟨fun q hq => ?_, ih hrest (by simp [hc])⟩
    have hfirst : q.headD 0 = c.segment := placeSegments_head _ _ _ _ (List.cons_ne_nil _ _) q hq
    rw [ClosedBy, ht, hfirst, hc]
    exact Nat.lt_of_not_le hpasses

/-! ## The plan (R158 to R160) -/

/-- A count of a plan is what the plan counts in that segment, when no other count is of the same segment. -/
theorem Plan.dots_of_mem {p : Plan} {c : SegmentCount} (hc : c ∈ p.counts)
    (hunique : ∀ c' ∈ p.counts, c'.segment = c.segment → c' = c) : p.dots c.segment = c.on := by
  have hsome : (p.counts.find? (fun x => x.segment == c.segment)).isSome = true :=
    List.find?_isSome.2 ⟨c, hc, beq_self_eq_true _⟩
  obtain ⟨c', hfind⟩ := Option.isSome_iff_exists.1 hsome
  have heq : c' = c := hunique c' (List.mem_of_find?_eq_some hfind) (by simpa using List.find?_some hfind)
  rw [Plan.dots, hfind, heq]

theorem unburned_eq (burned : List Nat) :
    unburned burned = (List.range 8).filter (fun i => decide (i ∉ burned)) := by
  simp [unburned]

theorem makePlan_dots (s : State) (r : RowRecord) (d : HistoryImage) :
    ∀ c ∈ (makePlan s r d).counts, (makePlan s r d).dots c.segment = c.on := by
  have hcount : ∀ c ∈ (makePlan s r d).counts, c = countSegment s.ps.latchImage d c.segment := by
    intro c hc
    obtain ⟨i, -, rfl⟩ := List.mem_map.1 hc
    rfl
  intro c hc
  refine Plan.dots_of_mem hc fun c' hc' hseg => ?_
  rw [hcount c' hc', hseg, ← hcount c hc]

theorem makePlan_phases_isChain (s : State) (r : RowRecord) (d : HistoryImage) :
    List.IsChain (ClosedBy (makePlan s r d).allowance (makePlan s r d).dots) (makePlan s r d).phases :=
  placeSegments_isChain (makePlan s r d).counts [] 0 (makePlan_dots s r d) rfl

/-- A later phase of a plan begins only with a segment that would have passed the allowance in the phase before it. -/
theorem makePlan_closed_by_next (s : State) (r : RowRecord) (d : HistoryImage) {x y : List Nat}
    (hnext : [x, y] <:+: (makePlan s r d).phases) :
    ClosedBy (makePlan s r d).allowance (makePlan s r d).dots x y := by
  obtain ⟨before, after, hsplit⟩ := hnext
  have hchain := makePlan_phases_isChain s r d
  rw [← hsplit] at hchain
  exact List.isChain_pair.1 hchain.left_of_append.right_of_append

/-! ## Pulse times (R162) -/

theorem clamp_eq_max_min {lo hi : Nat} (h : lo ≤ hi) (n : Nat) : clamp lo hi n = max lo (min hi n) := by
  unfold clamp
  split_ifs <;> omega

theorem clampInt_eq_max_min {lo hi : Int} (h : lo ≤ hi) (n : Int) : clampInt lo hi n = max lo (min hi n) := by
  unfold clampInt
  split_ifs <;> omega

theorem baseTime_eq (supply darkness : Nat) : baseTime supply darkness =
    (1000000 + 100000 * darkness) / (max 44 (min 75 supply) * max 44 (min 75 supply)) := by
  rw [baseTime, clamp_eq_max_min (by decide), energy]

theorem heatFactor_eq (teff : Int) : heatFactor teff = (256 + 4 * (25 - max 0 (min 70 teff))).toNat := by
  rw [heatFactor, clampInt_eq_max_min (by decide)]

theorem fullTime_eq (base : Nat) (teff : Int) :
    fullTime base teff = max 150 (min 1500 (base * heatFactor teff / 256)) :=
  clamp_eq_max_min (by decide) _

end Sys2Proof.Machine

namespace Sys2Proof.Proofs

open Sys2Proof Sys2Proof.Machine

/-- R157 to R160: the inputs are the plan's fields, the phases are those of `placeSegments`, and each count is its lemma
above. -/
theorem planOfARow : Claims.PlanOfARow := by
  refine ⟨fun s r d => ?plan, fun image old i hlen hold hi => ?counts⟩
  case plan =>
    refine ⟨rfl, rfl, rfl, rfl, rfl, rfl, rfl, congrArg _ (unburned_eq r.burned), placeSegments_flatten ..,
      makePlan_withinAllowance s r d, fun _ => placeSegments_ne_nil _ _ _ _ _, fun a b hnext => ?_⟩
    exact makePlan_closed_by_next s r d hnext
  case counts =>
    exact ⟨rfl, countSegment_on _ hlen hi, countSegment_fresh hlen hold hi, countSegment_held hlen hold hi, rfl,
      countSegment_on _ hlen hi, countSegment_blank_fresh hlen hi, countSegment_blank_held hlen hi⟩

/-- R162: the steps of the table, with each clamp written as a bound from below and above. -/
theorem pulseTimes : Claims.PulseTimes := by
  intro p estimate segment
  rw [pulseOf, heldTime, fullTime_eq, baseTime_eq, heatFactor_eq]

/-- Settles O56: the plan (R157 to R160) and the pulse times (R162), proved above. -/
theorem plansAndPulses : Obligations.PlansAndPulses := ⟨planOfARow, pulseTimes⟩

end Sys2Proof.Proofs
end

section
/-! PROOFS. What the meaning of a command can answer: always a next state, and one of nine shapes (a reset, a host access, a
grant, an event at once or at a timer's moment, or nothing). A statement about every step is one case analysis over these shapes
(O2, O50, O51, O60). -/

namespace Sys2Proof.Machine

open Sys2Proof

/-! ## The effects of the event rows -/

/-- The effects of the rows whose event happens at the present moment. -/
inductive PresentEffect : (State → State) → Prop where
  | carrierUp : PresentEffect carrierUp
  | carrierLost : PresentEffect carrierLost
  | bitDecided (d : Decision) (margin : Nat) (small : margin ≤ 15) : PresentEffect (bitDecided d margin)
  | startEdgeSeen : PresentEffect startEdgeSeen

/-- The effects of the rows whose event happens at a moment the rules give (log 5), in the state before. -/
inductive TimedEffect (s : State) : (State → State) → Prop where
  | qualified : TimedEffect s qualified
  | listenRunOut : TimedEffect s listenRunOut
  | lossHoldRunOut : TimedEffect s lossHoldRunOut
  | expireHold : TimedEffect s expireHold
  | operationDone : TimedEffect s operationDone
  | beginTail : TimedEffect s beginTail
  | scan (closed : BitVec 80) (mode : s.ks.scanMode = .matrix) : TimedEffect s (scan closed)
  | wakeScan (closed : BitVec 80) (mode : s.ks.scanMode = .wake) : TimedEffect s (wakeScan closed)
  | expireRepeat (t : RepeatTimer) : TimedEffect s (expireRepeat t)
  | endHeldDots (segment : Nat) : TimedEffect s (endHeldDots segment)
  | endStrobe (segment : Nat) : TimedEffect s (endStrobe segment)
  | endPhase : TimedEffect s endPhase
  | beginStep : TimedEffect s beginStep
  | stepDone : TimedEffect s stepDone
  | tick : TimedEffect s tick
  | endPacing : TimedEffect s endPacing
  | timedReading : TimedEffect s timedReading

/-- The states a command can lead to. -/
inductive Reaches (s : State) : State → Prop where
  | unchanged : Reaches s s
  | powerOn (straps : BitVec 2) : Reaches s (afterPowerOnReset straps s)
  | lineAsserted : Reaches s (afterResetLine s)
  | lineReleased (straps : BitVec 2) (held : s.mp.resetHeld = true) :
      Reaches s (serveAll s.mp.hostWaiting (releaseLine straps s))
  | hostWaits (x : HostAccess) (held : s.mp.resetHeld = true) : Reaches s (hostWait x s)
  | hostServed (x : HostAccess) (free : s.mp.resetHeld = false) : Reaches s (hostServe x s)
  | granted (r : Requester) (chosen : pick s = some r) : Reaches s (grantTo r s)
  | present (effect : State → State) (row : PresentEffect effect) : Reaches s (settle s (effect s))
  | timed (effect : State → State) (due : Nat) (row : TimedEffect s effect) :
      Reaches s (settle s (effect (clockTo due s)))

/-- An answer that is a next state of one of the shapes. -/
def Answers (s : State) (o : Host.Outcome State Fault Refusal) : Prop := ∃ t, o = .next t ∧ Reaches s t

/-! ## Shape by shape -/

theorem hostPresent_answers (x : HostAccess) (s : State) : Answers s (hostPresent x s) := by
  by_cases held : s.mp.resetHeld = true
  · exact ⟨_, hostPresent_of_held held, .hostWaits x held⟩
  · refine ⟨hostServe x s, ?_, .hostServed x (by simpa using held)⟩
    unfold hostPresent; rw [if_neg held]

theorem grantWhen_answers (r : Requester) (ready : Bool) (s : State) : Answers s (grantWhen r ready s) := by
  by_cases h : pick s = some r ∧ ready = true
  · exact ⟨_, grantWhen_of_chosen h.1 h.2, .granted r h.1⟩
  · refine ⟨s, grantWhen_of_other ?_, .unchanged⟩
    by_cases k : pick s = some r
    · exact .inr (by simpa [k] using h)
    · exact .inl k

theorem eventWhen_answers {effect : State → State} (ready : Bool) {s : State} (row : PresentEffect effect) :
    Answers s (eventWhen ready effect s) := by
  cases h : ready with
  | true => exact ⟨_, eventWhen_of_ready rfl, .present effect row⟩
  | false => exact ⟨s, eventWhen_of_not_ready rfl, .unchanged⟩

theorem eventWhen_clockTo_answers {effect : State → State} {ready : Bool} (due : Nat) {s : State}
    (row : ready = true → TimedEffect s effect) :
    Answers s (eventWhen ready (fun t => effect (clockTo due t)) s) := by
  cases h : ready with
  | true => exact ⟨_, eventWhen_of_ready rfl, .timed effect due (row h)⟩
  | false => exact ⟨s, eventWhen_of_not_ready rfl, .unchanged⟩

theorem expiry_answers {effect : State → State} (timer : Timer) (duration : Nat) {s : State}
    (row : TimedEffect s effect) : Answers s (expiry timer duration effect s) := by
  cases h : timer with
  | none => exact ⟨s, expiry_of_stopped rfl, .unchanged⟩
  | some start => exact ⟨_, expiry_of_running rfl, .timed effect _ row⟩

theorem unchanged_answers (s : State) : Answers s (.next s) := ⟨s, rfl, .unchanged⟩

/-- What KS scans in its two modes. -/
theorem scanning_iff {mode : ScanMode} {s : State} :
    scanning mode s = true ↔ s.mp.resetHeld = false ∧ s.ks.scanMode = mode := by
  unfold scanning; simp

/-! ## Row by row, where the shape depends on the state -/

theorem execResetLineRelease_answers (straps : BitVec 2) (s : State) : Answers s (execResetLineRelease straps s) := by
  unfold execResetLineRelease
  split
  next held => exact ⟨_, rfl, .lineReleased straps held⟩
  next => exact unchanged_answers s

theorem execLossHoldExpiry_answers (s : State) : Answers s (execLossHoldExpiry s) := by
  unfold execLossHoldExpiry
  split
  · exact unchanged_answers s
  · exact expiry_answers _ _ .lossHoldRunOut

theorem execHoldTimerExpiry_answers (s : State) : Answers s (execHoldTimerExpiry s) := by
  unfold execHoldTimerExpiry
  split
  · exact unchanged_answers s
  · exact expiry_answers _ _ .expireHold

theorem execCharacterOperationComplete_answers (s : State) : Answers s (execCharacterOperationComplete s) := by
  unfold execCharacterOperationComplete
  split
  · exact expiry_answers _ _ .operationDone
  · exact unchanged_answers s

theorem execBreakSpaceEnd_answers (s : State) : Answers s (execBreakSpaceEnd s) := by
  unfold execBreakSpaceEnd
  split
  · exact expiry_answers _ _ .beginTail
  · exact unchanged_answers s

theorem execBreakTailComplete_answers (s : State) : Answers s (execBreakTailComplete s) := by
  unfold execBreakTailComplete
  split
  · exact expiry_answers _ _ .operationDone
  · exact unchanged_answers s

theorem execRepeatTimerExpiry_answers (s : State) : Answers s (execRepeatTimerExpiry s) := by
  unfold execRepeatTimerExpiry
  split
  next => exact unchanged_answers s
  next t _ => exact expiry_answers _ _ (.expireRepeat t)

theorem execHeldDotsEnd_answers (segment : Fin 8) (s : State) : Answers s (execHeldDotsEnd segment s) := by
  unfold execHeldDotsEnd
  split
  · exact unchanged_answers s
  · exact expiry_answers _ _ (.endHeldDots segment.val)

theorem execSegmentStrobeEnd_answers (segment : Fin 8) (s : State) : Answers s (execSegmentStrobeEnd segment s) := by
  unfold execSegmentStrobeEnd
  split
  · exact unchanged_answers s
  · exact expiry_answers _ _ (.endStrobe segment.val)

/-- A margin of a row is a margin. -/
theorem margin_le (m : Fin 16) : m.val ≤ 15 := Nat.le_of_lt_succ m.isLt

/-- Every command answers a next state, of one of the shapes. -/
theorem exec_answers (c : Instr) (s : State) : Answers s (exec c s) := by
  cases c with
  | powerOnReset straps => exact ⟨_, rfl, .powerOn straps⟩
  | resetLineAssert => exact ⟨_, rfl, .lineAsserted⟩
  | resetLineRelease straps => exact execResetLineRelease_answers straps s
  | hostRead a => exact hostPresent_answers _ s
  | hostWrite a v => exact hostPresent_answers _ s
  | argWrite | settingWrite | geometryWrite | producerIndexWrite | consumerIndexWrite | acknowledge | unknown | connect
  | disconnect | sendBreak | printHold | printResume | printCancel | ringsReset | guardSet | guardOpen | guardClose
  | guardTight | confirm | clearAll | standby | wake | softReset => exact hostPresent_answers _ s
  | statusWriteBackGrant | partIndexClearGrant | resultWriteBackGrant | cmdClearGrant | txRingReadGrant
  | txConsWriteGrant | streamByteGrant | rxProdWriteGrant | keymapReadGrant | keyEventByteGrant | keyProdWriteGrant
  | descriptorReadGrant | imageReadGrant | descriptorResultWriteGrant | pqConsWriteGrant =>
    exact grantWhen_answers _ _ s
  | carrierPresent => exact eventWhen_answers _ .carrierUp
  | carrierAbsent => exact eventWhen_answers _ .carrierLost
  | startEdge => exact eventWhen_answers _ .startEdgeSeen
  | breakIn => exact eventWhen_answers _ (.bitDecided _ _ (by decide))
  | bitDecision _ margin | integrationComplete margin | idleMarkDecision margin | frameComplete _ margin
  | idleRunComplete margin | candidateCharacter margin | breakEnd margin =>
    exact eventWhen_answers _ (.bitDecided _ _ (margin_le margin))
  | qualifyExpiry => exact expiry_answers _ _ .qualified
  | listenExpiry => exact expiry_answers _ _ .listenRunOut
  | lossHoldExpiry => exact execLossHoldExpiry_answers s
  | holdTimerExpiry => exact execHoldTimerExpiry_answers s
  | characterOperationComplete => exact execCharacterOperationComplete_answers s
  | breakSpaceEnd => exact execBreakSpaceEnd_answers s
  | breakTailComplete => exact execBreakTailComplete_answers s
  | scanPass closed => exact eventWhen_clockTo_answers _ fun h => .scan closed (scanning_iff.mp h).2
  | wakePass closed => exact eventWhen_clockTo_answers _ fun h => .wakeScan closed (scanning_iff.mp h).2
  | repeatTimerExpiry => exact execRepeatTimerExpiry_answers s
  | heldDotsEnd segment => exact execHeldDotsEnd_answers segment s
  | segmentStrobeEnd segment => exact execSegmentStrobeEnd_answers segment s
  | phaseEnd => exact expiry_answers _ _ .endPhase
  | gateWaitExpiry => exact expiry_answers _ _ .beginStep
  | stepComplete => exact expiry_answers _ _ .stepDone
  | coolingTick => exact expiry_answers (some s.hm.lastTick) 5000 .tick
  | pacingTimerExpiry => exact expiry_answers _ _ .endPacing
  | readingTimerExpiry => exact expiry_answers _ _ .timedReading

/-! ## The step -/

/-- With nothing waiting a step idles. -/
theorem step_of_empty {s : State} (h : s.pending = []) : step s = .next (idle s) := by
  unfold step; rw [h]

/-- With a command waiting a step is its meaning on the state with the queue's rest. -/
theorem step_of_cons {s : State} {c : Instr} {rest : List Instr} (h : s.pending = c :: rest) :
    step s = exec c (s.withPending rest) := by
  unfold step; rw [h]

/-- A step idles, or is of one of the shapes from the state with the queue's rest. -/
theorem step_cases {s t : State} (h : step s = .next t) :
    t = idle s ∨ ∃ rest, Reaches (s.withPending rest) t := by
  cases hp : s.pending with
  | nil =>
    rw [step_of_empty hp] at h
    exact .inl (by injection h with h; exact h.symm)
  | cons c rest =>
    obtain ⟨u, hu, reaches⟩ := exec_answers c (s.withPending rest)
    rw [step_of_cons hp, hu] at h
    injection h with h
    exact .inr ⟨rest, h ▸ reaches⟩

/-- What idling, setting the queue and every shape keep, every step keeps. -/
theorem step_keeps {P : State → Prop} (idles : ∀ s, P s → P (idle s)) (queue : ∀ s rest, P s → P (s.withPending rest))
    (shapes : ∀ s t, P s → Reaches s t → P t) {s t : State} (hs : P s) (h : step s = .next t) : P t := by
  obtain rfl | ⟨rest, reaches⟩ := step_cases h
  · exact idles s hs
  · exact shapes _ t (queue s rest hs) reaches

end Sys2Proof.Machine

namespace Sys2Proof.Proofs

open Sys2Proof Sys2Proof.Machine

/-- Settles O1: the step's own case split; the clock's move is `atTime` at the next microsecond. -/
theorem stepRunsTheFrontCommand : Obligations.StepRunsTheFrontCommand :=
  ⟨fun _ _ _ h => step_of_cons h, fun _ h => step_of_empty h⟩

/-- No shape touches the queue. -/
theorem reaches_pending {s t : State} (h : Reaches s t) : t.pending = s.pending := by
  cases h with
  | unchanged => rfl
  | powerOn | lineAsserted => rfl
  | lineReleased | hostWaits | hostServed | granted => simp
  | present effect row => cases row <;> simp
  | timed effect due row => cases row <;> simp

/-- Settles O2: every command answers one of the shapes, and each leaves the queue by its frame. -/
theorem everyCommandCompletesAndLeavesTheQueue : Obligations.EveryCommandCompletesAndLeavesTheQueue := by
  intro c s
  obtain ⟨t, ht, reaches⟩ := exec_answers c s
  exact ⟨t, ht, reaches_pending reaches⟩

/-- Settles O50: each shape writes RAM, if at all, by writes that keep its canonical form. -/
theorem everyStepKeepsMemoryCanonical : Obligations.EveryStepKeepsMemoryCanonical := by
  intro s t
  refine step_keeps (P := MemoryCanonical) (fun s h => ?_) (fun s rest h => h) (fun s t h reaches => ?_)
  · simpa [MemoryCanonical, idle] using h
  · unfold MemoryCanonical at *
    cases reaches with
    | unchanged => exact h
    | powerOn | lineAsserted => exact h
    | lineReleased | hostWaits | hostServed | granted => simp [h]
    | present effect row => cases row <;> simp [h]
    | timed effect due row => cases row <;> simp [h]

end Sys2Proof.Proofs
end

section
/-! PROOFS. No page the part writes comes into the window set (R12): the windows change only by GUARD_SET and the resets, the
ring areas only by RINGS_RESET and the resets, the base only while every window is disabled (O51). -/

namespace Sys2Proof.Machine

open Sys2Proof

/-! ## What is kept along the host's accesses -/

/-- What a grant and a host grant with the end of its event keep, the service of a waiting access keeps. -/
theorem serveWaiting_keeps {P : State → Prop} (grants : ∀ r s, P s → P (grantTo r s))
    (host : ∀ x before s, P s → P (settle before (hostGrant x s))) (x : HostAccess) {s : State} (h : P s) :
    P (serveWaiting x s) := by
  have internal : P (grantInternal s) := by
    unfold grantInternal
    split
    next => exact h
    next r _ => exact grants r s h
  unfold serveWaiting
  dsimp only
  split
  · exact host x _ _ internal
  · exact host x _ _ h

/-- The same for the accesses that waited through a held reset line. -/
theorem serveAll_keeps {P : State → Prop} (serves : ∀ x s, P s → P (serveWaiting x s)) (l : List HostAccess) :
    ∀ {s : State}, P s → P (serveAll l s) := by
  induction l with
  | nil => exact fun h => h
  | cons x rest ih => exact fun h => ih (serves x _ h)

/-- The same for an access the host presents. -/
theorem hostServe_keeps {P : State → Prop} (waits : ∀ x s, P s → P (hostWait x s))
    (serves : ∀ x s, P s → P (serveWaiting x s)) (x : HostAccess) {s : State} (h : P s) : P (hostServe x s) := by
  unfold hostServe
  split
  · exact serves x _ (waits x s h)
  · exact serves x s h

/-! ## The pages the part writes -/

/-- No page the part writes lies in the window set. -/
def PagesApart (s : State) : Prop :=
  ∀ page, page < 128 → s.mp.windowSet page = true → partPage s page = false

theorem partPagesClear_iff {s : State} : PartPagesClear s ↔
    PagesApart s ∧ (s.mp.resetHeld = true → ∀ w ∈ s.mp.windows, w.enabled = false) := Iff.rfl

theorem mem_pages {page : Nat} : page ∈ pages ↔ page < 128 := by simp [pages]

/-- The pages the part writes are those of the base and of the set rings. -/
theorem partPage_congr {s t : State} (straps : t.mp.straps = s.mp.straps) (geometry : t.cbm.geometry = s.cbm.geometry)
    (page : Nat) : partPage t page = partPage s page := by
  simp only [partPage, State.blockPage, State.base, setRings, straps, geometry]

/-- With the rings unset the part writes only in its control block page. -/
theorem partPage_of_unset {s : State} (h : s.cbm.geometry = none) (page : Nat) :
    partPage s page = (page == s.blockPage) := by
  simp [partPage, setRings, h]

/-- With the rings set it writes there and in the pages of the rings. -/
theorem partPage_of_set {s : State} {g : Geometry} (h : s.cbm.geometry = some g) (page : Nat) :
    partPage s page = (page == s.blockPage || g.rings.any (fun r => r.onPage page)) := by
  simp [partPage, setRings, h]

/-- A page off those the part writes is not the control block page. -/
theorem blockPage_of_partPage_false {s : State} {page : Nat} (h : partPage s page = false) :
    (page == s.blockPage) = false := by
  unfold partPage at h
  exact (Bool.or_eq_false_iff.mp h).1

/-- Windows that are all disabled guard nothing. -/
theorem windowSet_of_disabled {m : MemoryPath} (h : ∀ w ∈ m.windows, w.enabled = false) (page : Nat) :
    m.windowSet page = false := by
  unfold MemoryPath.windowSet
  rw [List.any_eq_false]
  intro w hw
  simp [Window.guards, h w hw]

/-- A window replaced: the window set holds pages of the new window or of the old set. -/
theorem windowSet_set {m : MemoryPath} {i : Nat} {w : Window} {page : Nat}
    (h : MemoryPath.windowSet { m with windows := m.windows.set i w } page = true) :
    w.guards page = true ∨ m.windowSet page = true := by
  unfold MemoryPath.windowSet at *
  obtain ⟨v, hv, guards⟩ := List.any_eq_true.mp h
  rcases List.mem_or_eq_of_mem_set hv with old | rfl
  · exact .inr (List.any_eq_true.mpr ⟨v, old, guards⟩)
  · exact .inl guards

/-- The windows, the straps and the geometry decide. -/
theorem pagesApart_congr {s t : State} (windows : t.mp.windows = s.mp.windows) (straps : t.mp.straps = s.mp.straps)
    (geometry : t.cbm.geometry = s.cbm.geometry) (h : PagesApart s) : PagesApart t := by
  intro page small inSet
  rw [partPage_congr straps geometry]
  refine h page small ?_
  unfold MemoryPath.windowSet at *
  rwa [windows] at inSet

/-- Windows that are all disabled leave every page apart. -/
theorem pagesApart_of_disabled {s : State} (h : ∀ w ∈ s.mp.windows, w.enabled = false) : PagesApart s := by
  intro page _ inSet
  rw [windowSet_of_disabled h] at inSet
  cases inSet

/-! ## GUARD_SET, SOFT_RESET and RINGS_RESET -/

/-- A GUARD_SET that passes its checks guards no page the part writes. -/
theorem guardSetCheck_apart {a : Args} {s : State} (h : guardSetCheck a s = none) {page : Nat} (small : page < 128)
    (guards : (windowOf a).guards page = true) : partPage s page = false := by
  unfold guardSetCheck at h
  split at h; · cases h
  split at h; · cases h
  split at h; · cases h
  split at h; · cases h
  split at h; · cases h
  next none_overlaps =>
    rw [Bool.not_eq_true, List.any_eq_false] at none_overlaps
    simpa [guards] using none_overlaps page (mem_pages.mpr small)

theorem guardSetEffect_apart {a : Args} {s : State} (check : guardSetCheck a s = none) (h : PagesApart s) :
    PagesApart (guardSetEffect a s) := by
  intro page small inSet
  rw [partPage_congr (s := s) (by simp) (by simp)]
  have inSet' : MemoryPath.windowSet { s.mp with windows := s.mp.windows.set a.arg0.toNat (windowOf a) } page = true := by
    simpa [guardSetEffect] using inSet
  rcases windowSet_set inSet' with new | old
  · exact guardSetCheck_apart check small new
  · exact h page small old

theorem softResetEffect_apart {s : State} (h : PagesApart s) : PagesApart (softResetEffect s) := by
  intro page small inSet
  rw [partPage_of_unset rfl]
  exact blockPage_of_partPage_false (s := s) (h page small inSet)

/-- A RINGS_RESET that passes its checks has placeable rings. -/
theorem placeable_of_ringsResetCheck {s : State} (h : ringsResetCheck s = none) :
    placeable s.cbm.geometryRaw s = true := by
  unfold ringsResetCheck at h
  dsimp only at h
  split at h; · cases h
  split at h; · cases h
  split at h; · cases h
  split at h
  next => cases h
  next ok => simpa using ok

/-- Placeable rings lie off the window set. -/
theorem rings_apart_of_placeable {g : Geometry} {s : State} (h : placeable g s = true) {page : Nat} (small : page < 128)
    (inSet : s.mp.windowSet page = true) : g.rings.any (fun r => r.onPage page) = false := by
  unfold placeable at h
  dsimp only at h
  have none_guarded := (Bool.and_eq_true_iff.mp h).2
  rw [Bool.not_eq_true', List.any_eq_false] at none_guarded
  simpa only [inSet, Bool.true_and, Bool.not_eq_true] using none_guarded page (mem_pages.mpr small)

theorem ringsResetEffect_apart {s : State} (check : ringsResetCheck s = none) (h : PagesApart s) :
    PagesApart (ringsResetEffect s) := by
  intro page small inSet
  rw [partPage_of_set rfl, Bool.or_eq_false_iff]
  exact ⟨blockPage_of_partPage_false (s := s) (h page small inSet),
    rings_apart_of_placeable (placeable_of_ringsResetCheck check) small inSet⟩

theorem confirmableEffect_apart {p : PendingCommand} {s : State} (check : confirmableCheck p s = none)
    (h : PagesApart s) : PagesApart (confirmableEffect p s) := by
  unfold confirmableCheck at check
  unfold confirmableEffect
  cases code : p.code <;> rw [code] at check <;> dsimp only at check ⊢
  case guardSet => exact guardSetEffect_apart check h
  case guardOpen => exact pagesApart_congr (by simp) (by simp) (by simp) h
  case guardTight => exact pagesApart_congr (by simp) (by simp) (by simp) h
  case softReset => exact softResetEffect_apart h

theorem discardPending_apart {s : State} (h : PagesApart s) : PagesApart (discardPending s) :=
  pagesApart_congr (by simp) (by simp) (by simp) h

theorem takeConfirm_apart {s : State} (h : PagesApart s) : PagesApart (takeConfirm s).2 := by
  unfold takeConfirm
  split
  next => exact h
  next p _ =>
    dsimp only
    split
    next => exact discardPending_apart h
    next check => exact confirmableEffect_apart check (discardPending_apart h)

theorem takeRingsReset_apart {s : State} (h : PagesApart s) : PagesApart (takeRingsReset s).2 := by
  unfold takeRingsReset
  split
  next => exact h
  next check => exact ringsResetEffect_apart check h

/-! ## Along a host access -/

theorem runCommand_apart (c : Command) {s : State} (h : PagesApart s) : PagesApart (runCommand c s).2 := by
  unfold runCommand
  cases c with
  | confirm => exact takeConfirm_apart h
  | ringsReset => exact takeRingsReset_apart (discardPending_apart h)
  | confirmable | connect | disconnect | sendBreak | printHold | printResume | printCancel | guardClose | clearAll
  | standby | wake => exact pagesApart_congr (by simp) (by simp) (by simp) h

theorem takeCommand_apart (code : Byte) {s : State} (h : PagesApart s) : PagesApart (takeCommand code s) := by
  have answered : PagesApart (decideAnswer code s).2 := by
    unfold decideAnswer
    split
    · exact h
    · split
      next => exact discardPending_apart h
      next c _ => exact runCommand_apart c h
  exact pagesApart_congr rfl rfl rfl answered

theorem snoop_apart (offset : Nat) (v : Byte) {s : State} (h : PagesApart s) : PagesApart (snoop offset v s) := by
  unfold snoop
  split
  · split
    · exact h
    · exact takeCommand_apart v h
  case _ | _ | _ | _ | _ | _ => exact pagesApart_congr (by simp) (by simp) (by simp) h
  · split <;> exact pagesApart_congr (by simp) (by simp) (by simp) h

theorem deliverWrite_apart (a : Addr) (v : Byte) {s : State} (h : PagesApart s) : PagesApart (deliverWrite a v s) := by
  unfold deliverWrite
  have lands : PagesApart (writeByte a v s) := pagesApart_congr (by simp) (by simp) (by simp) h
  split
  next => exact pagesApart_congr (by simp) (by simp) (by simp) h
  next offset _ => exact snoop_apart offset v lands
  next => exact pagesApart_congr (by simp) (by simp) (by simp) h
  next => exact lands

theorem settle_apart (before : State) {s : State} (h : PagesApart s) : PagesApart (settle before s) :=
  pagesApart_congr (by simp) (by simp) (by simp) h

theorem hostGrant_apart (x : HostAccess) {s : State} (h : PagesApart s) : PagesApart (hostGrant x s) := by
  have counted : PagesApart (countHost s) := pagesApart_congr (by simp) (by simp) (by simp) h
  cases x with
  | read a => exact pagesApart_congr rfl rfl rfl counted
  | write a v => exact deliverWrite_apart a v counted

theorem serveWaiting_apart (x : HostAccess) {s : State} (h : PagesApart s) : PagesApart (serveWaiting x s) :=
  serveWaiting_keeps (fun _ _ h => pagesApart_congr (by simp) (by simp) (by simp) h)
    (fun x before _ h => settle_apart before (hostGrant_apart x h)) x h

/-! ## Along a step -/

theorem reaches_partPagesClear {s t : State} (h : PartPagesClear s) (reaches : Reaches s t) : PartPagesClear t := by
  obtain ⟨apart, disabled⟩ := partPagesClear_iff.mp h
  rw [partPagesClear_iff]
  cases reaches with
  | unchanged => exact ⟨apart, disabled⟩
  | powerOn straps =>
    have off : ∀ w ∈ (afterPowerOnReset straps s).mp.windows, w.enabled = false := by
      simp [afterPowerOnReset, MemoryPath.afterReset, clearWindow]
    exact ⟨pagesApart_of_disabled off, fun _ => off⟩
  | lineAsserted =>
    have off : ∀ w ∈ (afterResetLine s).mp.windows, w.enabled = false := by
      simp [afterResetLine, MemoryPath.afterReset, clearWindow]
    exact ⟨pagesApart_of_disabled off, fun _ => off⟩
  | lineReleased straps held =>
    have released : PagesApart (releaseLine straps s) := pagesApart_of_disabled (by simpa using disabled held)
    refine ⟨serveAll_keeps (fun x _ h => serveWaiting_apart x h) _ released, fun stillHeld => ?_⟩
    simp [releaseLine] at stillHeld
  | hostWaits x held => exact ⟨pagesApart_congr rfl rfl rfl apart, disabled⟩
  | hostServed x free =>
    refine ⟨hostServe_keeps (fun _ _ h => pagesApart_congr rfl rfl rfl h) (fun x _ h => serveWaiting_apart x h) x apart,
      fun held => ?_⟩
    simp [free] at held
  | granted r chosen => exact ⟨pagesApart_congr (by simp) (by simp) (by simp) apart, by simpa using disabled⟩
  | present effect row =>
    cases row <;> exact ⟨pagesApart_congr (by simp) (by simp) (by simp) apart, by simpa using disabled⟩
  | timed effect due row =>
    cases row <;> exact ⟨pagesApart_congr (by simp) (by simp) (by simp) apart, by simpa using disabled⟩

end Sys2Proof.Machine

namespace Sys2Proof.Proofs

open Sys2Proof Sys2Proof.Machine

/-- Settles O51: the checks of GUARD_SET and RINGS_RESET keep the two apart, and the reset line moves the base only with every
window disabled. -/
theorem everyStepKeepsPartPagesOutOfTheWindows : Obligations.EveryStepKeepsPartPagesOutOfTheWindows := by
  intro s t
  refine step_keeps (P := PartPagesClear) (fun s h => ?_) (fun s rest h => h) (fun s t => reaches_partPagesClear)
  obtain ⟨apart, disabled⟩ := partPagesClear_iff.mp h
  exact partPagesClear_iff.mpr ⟨pagesApart_congr (by simp [idle]) (by simp [idle]) (by simp [idle]) apart,
    by simpa [idle] using disabled⟩

end Sys2Proof.Proofs
end

section
/-! PROOFS. What every step keeps (O60): each shape of a step is made of operations whose bounds the layers above give; here
stand the bounds of the settings shadows (R29), of the heat estimates (R172, R173), of the arbiter's counts (R10, R11), and the
phase of the tone out (R44). -/

namespace Sys2Proof.Machine

open Sys2Proof

/-! ## Settings shadows (R29) -/

/-- The rates. -/
theorem lineRateOf_cases (b : Byte) : lineRateOf b = 110 ∨ lineRateOf b = 150 ∨ lineRateOf b = 300 := by
  unfold lineRateOf; split <;> simp

/-- Eight data bits go without parity, seven with one. -/
theorem lineFormatOf_parity (b : Byte) :
    ((lineFormatOf b).eightData = true → (lineFormatOf b).parity = .none) ∧
      ((lineFormatOf b).eightData = false → (lineFormatOf b).parity ≠ .none) := by
  unfold lineFormatOf
  dsimp only
  refine ⟨fun h => if_pos h, fun h => ?_⟩
  rw [if_neg (by simpa using h)]
  split <;> decide

/-- A write of a setting byte keeps every shadow in its range: the shadow written is clamped, and one that depends on it is
formed again. -/
theorem settings_set_inRange {t : Settings} (raw : RawSettings) (reg : SettingReg) (b : Byte) (h : SettingsInRange t) :
    SettingsInRange (t.set raw reg b) := by
  have ⟨rate, eight, seven, ranges⟩ := h
  cases reg with
  | lineRate => exact ⟨lineRateOf_cases b, eight, seven, ranges⟩
  | lineFormat => exact ⟨rate, (lineFormatOf_parity b).1, (lineFormatOf_parity b).2, ranges⟩
  | lineOpts | xoffChar | xonChar => exact h
  | xoffFree | xonFree | holdLimit | listenLimit | lossHold | quietEnter | quietExit | weakMargin | darkness | history
  | warnTemp | stopTemp | repeatDelay | repeatInterval =>
    refine ⟨rate, eight, seven, ?_⟩
    dsimp only [Settings.set, xonFreeOf, quietExitOf, stopTempOf, clamp]
    split_ifs <;> omega

/-- The hold timer's expiry leaves the shadows a setting write has formed. -/
theorem takeSetting_settings (reg : SettingReg) (v : Byte) (s : State) :
    (takeSetting reg v s).cbm.settings = s.cbm.settings.set (s.cbm.raw.set reg v) reg v := by
  unfold takeSetting
  dsimp only
  split
  · simp
  · rfl

theorem snoop_settings (offset : Nat) (v : Byte) {s : State} (h : SettingsInRange s.cbm.settings) :
    SettingsInRange (snoop offset v s).cbm.settings := by
  unfold snoop
  split
  · split
    · exact h
    · simpa using h
  case _ | _ | _ | _ | _ | _ => simpa using h
  · split
    · simpa using h
    · unfold snoopSetup
      split
      · rw [takeSetting_settings]
        exact settings_set_inRange _ _ v h
      · simpa using h
      · exact h

theorem hostGrant_settings (x : HostAccess) {s : State} (h : SettingsInRange s.cbm.settings) :
    SettingsInRange (hostGrant x s).cbm.settings := by
  cases x with
  | read a => exact h
  | write a v =>
    dsimp only [hostGrant]
    unfold deliverWrite
    split
    next => simpa using h
    next offset _ => exact snoop_settings offset v (by simpa using h)
    next => simpa using h
    next => simpa using h

theorem serveWaiting_settings (x : HostAccess) {s : State} (h : SettingsInRange s.cbm.settings) :
    SettingsInRange (serveWaiting x s).cbm.settings :=
  serveWaiting_keeps (P := fun s => SettingsInRange s.cbm.settings) (fun _ _ h => by simpa using h)
    (fun x _ _ h => by simpa using hostGrant_settings x h) x h

theorem defaultSettings_inRange : SettingsInRange defaultSettings := by unfold SettingsInRange; decide

theorem reaches_settings {s t : State} (h : SettingsInRange s.cbm.settings) (reaches : Reaches s t) :
    SettingsInRange t.cbm.settings := by
  cases reaches with
  | unchanged => exact h
  | powerOn | lineAsserted => exact defaultSettings_inRange
  | lineReleased straps _ =>
    exact serveAll_keeps (P := fun s => SettingsInRange s.cbm.settings) (fun x _ h => serveWaiting_settings x h) _
      (s := releaseLine straps s) (by simpa using h)
  | hostWaits => exact h
  | hostServed x _ =>
    exact hostServe_keeps (P := fun s => SettingsInRange s.cbm.settings) (fun _ _ h => h)
      (fun x _ h => serveWaiting_settings x h) x h
  | granted => simpa using h
  | present effect row => cases row <;> simpa using h
  | timed effect due row => cases row <;> simpa using h

/-! ## Heat estimates (R172, R173) -/

/-- Eight estimates, each within 0..1023. -/
def EstimatesBounded (e : List Nat) : Prop := e.length = 8 ∧ ∀ h ∈ e, h ≤ 1023

theorem heatBounded_iff {s : State} : HeatBounded s ↔ EstimatesBounded s.hm.estimates := Iff.rfl

theorem heatSegment_bounded (counts : List SegmentCount) (p : Pulse) {e : List Nat} (h : EstimatesBounded e) :
    EstimatesBounded (heatSegment counts e p) := by
  refine ⟨(heatSegment_length counts e p).trans h.1, fun n mem => ?_⟩
  unfold heatSegment at mem
  split at mem
  · exact h.2 n mem
  · rcases List.mem_or_eq_of_mem_set mem with old | rfl
    · exact h.2 n old
    · exact heated_le _ _

theorem heatSegments_bounded (counts : List SegmentCount) (pulses : List Pulse) :
    ∀ {e : List Nat}, EstimatesBounded e → EstimatesBounded (pulses.foldl (heatSegment counts) e) := by
  induction pulses with
  | nil => exact fun h => h
  | cons p rest ih => exact fun h => ih (heatSegment_bounded counts p h)

theorem cooled_bounded {e : List Nat} (h : EstimatesBounded e) : EstimatesBounded (e.map cooled) := by
  refine ⟨by simpa using h.1, fun n mem => ?_⟩
  obtain ⟨m, hm, rfl⟩ := List.mem_map.mp mem
  exact (cooled_le m).trans (h.2 m hm)

theorem endPhase_heat {s : State} (h : EstimatesBounded s.hm.estimates) : EstimatesBounded (endPhase s).hm.estimates := by
  unfold endPhase
  split
  next p r _ _ => simpa [heatPhase] using heatSegments_bounded p.counts s.sp.pulses h
  next => exact h

theorem tick_heat {s : State} (h : EstimatesBounded s.hm.estimates) : EstimatesBounded (tick s).hm.estimates := by
  simpa [tick, coolAll] using cooled_bounded h

theorem reaches_heat {s t : State} (h : HeatBounded s) (reaches : Reaches s t) : HeatBounded t := by
  rw [heatBounded_iff] at *
  cases reaches with
  | unchanged => exact h
  | powerOn =>
    refine ⟨List.length_replicate, fun n mem => ?_⟩
    rw [List.eq_of_mem_replicate mem]
    exact Nat.zero_le _
  | lineAsserted | lineReleased | hostWaits | hostServed | granted => simpa using h
  | present effect row => cases row <;> simpa using h
  | timed effect due row =>
    cases row
    case endPhase => simpa using endPhase_heat (s := clockTo due s) (by simpa using h)
    case tick => simpa using tick_heat (s := clockTo due s) (by simpa using h)
    all_goals simpa using h

/-! ## The arbiter's counts (R10, R11) -/

/-- The counts decide. -/
theorem countsBounded_congr {s t : State} (run : t.mp.hostRun = s.mp.hostRun)
    (passes : t.mp.passCount = s.mp.passCount) (h : CountsBounded s) : CountsBounded t := by
  unfold CountsBounded at *; rwa [run, passes]

/-- A memory path left as it was keeps its counts. -/
theorem countsBounded_of_mp {s t : State} (mp : t.mp = s.mp) (h : CountsBounded s) : CountsBounded t :=
  countsBounded_congr (by rw [mp]) (by rw [mp]) h

theorem confirmableEffect_counts (p : PendingCommand) {s : State} (h : CountsBounded s) :
    CountsBounded (confirmableEffect p s) := by
  unfold confirmableEffect
  cases p.code with
  | softReset => exact ⟨Nat.zero_le _, Nat.zero_le _⟩
  | guardSet | guardOpen | guardTight => exact countsBounded_congr rfl rfl h

theorem takeConfirm_counts {s : State} (h : CountsBounded s) : CountsBounded (takeConfirm s).2 := by
  unfold takeConfirm
  split
  · exact h
  · dsimp only
    split
    · exact countsBounded_of_mp (by simp) h
    · exact confirmableEffect_counts _ (countsBounded_of_mp (by simp) h)

theorem reportGuardHit_counts (lo : Byte) {s : State} (h : CountsBounded s) : CountsBounded (reportGuardHit lo s) := by
  unfold reportGuardHit
  split <;> exact countsBounded_congr rfl rfl h

theorem acknowledge_counts (lo hi : Byte) {s : State} (h : CountsBounded s) : CountsBounded (acknowledge lo hi s) := by
  have reports : ∀ again u, CountsBounded u →
      CountsBounded (reportHotStop hi again (reportDescError lo (reportGuardHit lo u))) :=
    fun again u h => countsBounded_of_mp (by simp) (reportGuardHit_counts lo h)
  exact reports _ _ (countsBounded_of_mp rfl h)

theorem runCommand_counts (c : Command) {s : State} (h : CountsBounded s) : CountsBounded (runCommand c s).2 := by
  have discarded : CountsBounded (discardPending s) := countsBounded_of_mp (by simp) h
  unfold runCommand
  cases c with
  | confirm => exact takeConfirm_counts h
  | clearAll => exact acknowledge_counts _ _ discarded
  | guardClose => exact countsBounded_congr rfl rfl discarded
  | confirmable | connect | disconnect | sendBreak | printHold | printResume | printCancel | ringsReset | standby
  | wake => exact countsBounded_of_mp (by simp) h

theorem takeCommand_counts (code : Byte) {s : State} (h : CountsBounded s) : CountsBounded (takeCommand code s) := by
  have answered : CountsBounded (decideAnswer code s).2 := by
    unfold decideAnswer
    split
    · exact h
    · split
      next => exact countsBounded_of_mp (by simp) h
      next c _ => exact runCommand_counts c h
  exact countsBounded_of_mp rfl answered

theorem acknowledgeWord_counts (word : FlagWord) (mask : Byte) {s : State} (h : CountsBounded s) :
    CountsBounded (acknowledgeWord word mask s) := by
  cases word <;> exact acknowledge_counts _ _ h

theorem snoop_counts (offset : Nat) (v : Byte) {s : State} (h : CountsBounded s) : CountsBounded (snoop offset v s) := by
  unfold snoop
  split
  · split
    · exact h
    · exact takeCommand_counts v h
  case _ | _ | _ | _ => exact countsBounded_of_mp (by simp) h
  · exact acknowledgeWord_counts .lo v h
  · exact acknowledgeWord_counts .hi v h
  · split <;> exact countsBounded_of_mp (by simp) h

theorem deliverWrite_counts (a : Addr) (v : Byte) {s : State} (h : CountsBounded s) :
    CountsBounded (deliverWrite a v s) := by
  unfold deliverWrite
  split
  next => exact countsBounded_of_mp (by simp) h
  next offset _ => exact snoop_counts offset v (countsBounded_of_mp (by simp) h)
  next => exact countsBounded_congr (by simp [guardedDrop]) (by simp [guardedDrop]) h
  next => exact countsBounded_of_mp (by simp) h

/-- A host grant in the host's own slot counts at most to 8. -/
theorem countHost_counts {s : State} (turn : contended s = false) (h : CountsBounded s) : CountsBounded (countHost s) := by
  have ⟨run, passes⟩ := h
  refine ⟨?_, ?_⟩ <;> simp only [countHost, withMp_mp] <;> split <;> try omega
  next waiting =>
    rcases contended_eq_false_iff.mp turn with below | idle
    · omega
    · simp [idle] at waiting

theorem hostGrant_counts (x : HostAccess) {s : State} (turn : contended s = false) (h : CountsBounded s) :
    CountsBounded (hostGrant x s) := by
  have counted := countHost_counts turn h
  cases x with
  | read a => exact countsBounded_congr rfl rfl counted
  | write a v => exact deliverWrite_counts a v counted

/-- CBM passes over its pass count only before 16. -/
theorem passCount_lt_of_pick {r : Requester} {s : State} (chosen : pick s = some r) (other : r ≠ .cbm)
    (waits : presents s .cbm = true) : s.mp.passCount < 16 := by
  by_contra full
  unfold pick at chosen
  split at chosen
  · cases chosen
  · rw [if_pos (by simp [waits]; omega)] at chosen
    exact other (by injection chosen with chosen; exact chosen.symm)

/-- An internal grant ends the host's run and counts at most to 16. -/
theorem grantTo_counts {r : Requester} {s : State} (chosen : pick s = some r) (h : CountsBounded s) :
    CountsBounded (grantTo r s) := by
  have ⟨_, passes⟩ := h
  refine countsBounded_of_mp (s := countInternal r s) (by simp [grantTo]) ⟨Nat.zero_le _, ?_⟩
  simp only [countInternal, withMp_mp]
  split
  next => omega
  next other =>
    split
    next waits => have := passCount_lt_of_pick chosen other waits; omega
    next => omega

/-- An internal access that waits is chosen, outside a held reset line. -/
theorem pick_isSome {s : State} (free : s.mp.resetHeld = false) (waiting : internalWaiting s = true) :
    ∃ r, pick s = some r := by
  unfold pick
  rw [if_neg (by simp [free])]
  unfold internalWaiting at waiting
  repeat' split
  all_goals first | exact ⟨_, rfl⟩ | simp_all

/-- After an internal grant the next slot is the host's. -/
theorem contended_grantTo (r : Requester) (s : State) : contended (grantTo r s) = false := by
  refine contended_eq_false_iff.mpr (.inl ?_)
  simp [grantTo, countInternal]

theorem serveWaiting_counts (x : HostAccess) {s : State} (free : s.mp.resetHeld = false) (h : CountsBounded s) :
    CountsBounded (serveWaiting x s) := by
  cases turn : contended s with
  | false =>
    rw [serveWaiting_of_turn turn]
    exact countsBounded_of_mp (by simp) (hostGrant_counts x turn h)
  | true =>
    have waiting : internalWaiting s = true := by
      unfold contended at turn
      exact (Bool.and_eq_true_iff.mp turn).2
    obtain ⟨r, chosen⟩ := pick_isSome free waiting
    rw [serveWaiting_of_contended turn chosen]
    exact countsBounded_of_mp (by simp) (hostGrant_counts x (contended_grantTo r s) (grantTo_counts chosen h))

theorem reaches_counts {s t : State} (h : CountsBounded s) (reaches : Reaches s t) : CountsBounded t := by
  cases reaches with
  | unchanged => exact h
  | powerOn | lineAsserted => exact ⟨Nat.zero_le _, Nat.zero_le _⟩
  | lineReleased straps _ =>
    refine (serveAll_keeps (P := fun s => s.mp.resetHeld = false ∧ CountsBounded s)
      (fun x _ h => ⟨by simpa using h.1, serveWaiting_counts x h.1 h.2⟩) _ (s := releaseLine straps s) ⟨?_, ?_⟩).2
    · simp [releaseLine]
    · exact countsBounded_congr (by simp [releaseLine]) (by simp [releaseLine]) h
  | hostWaits => exact countsBounded_congr rfl rfl h
  | hostServed x free =>
    exact (hostServe_keeps (P := fun s => s.mp.resetHeld = false ∧ CountsBounded s)
      (fun _ _ h => ⟨h.1, countsBounded_congr rfl rfl h.2⟩)
      (fun x _ h => ⟨by simpa using h.1, serveWaiting_counts x h.1 h.2⟩) x ⟨free, h⟩).2
  | granted r chosen => exact grantTo_counts chosen h
  | present effect row => cases row <;> exact countsBounded_of_mp (by simp) h
  | timed effect due row => cases row <;> exact countsBounded_of_mp (by simp) h

/-! ## The blocks' own bounds -/

theorem reaches_line {s t : State} (h : s.lu.bounded) (reaches : Reaches s t) : t.lu.bounded := by
  cases reaches with
  | unchanged => exact h
  | powerOn | lineAsserted | lineReleased | hostWaits | hostServed | granted => simp [h]
  | present effect row => cases row <;> simp [*]
  | timed effect due row => cases row <;> simp [h]

theorem reaches_stream {s t : State} (h : s.su.bounded) (reaches : Reaches s t) : t.su.bounded := by
  cases reaches with
  | unchanged => exact h
  | powerOn | lineAsserted | lineReleased | hostWaits | hostServed | granted => simp [h]
  | present effect row => cases row <;> simp [h]
  | timed effect due row => cases row <;> simp [h]

/-- No key is held in the wake scan (R129). -/
theorem held_of_wake {k : KeyScanner} (h : k.bounded) (mode : k.scanMode = .wake) : k.held = [] := h.2.2.2.2 mode

theorem reaches_keys {s t : State} (h : s.ks.bounded) (reaches : Reaches s t) : t.ks.bounded := by
  cases reaches with
  | unchanged => exact h
  | powerOn | lineAsserted | lineReleased | hostWaits | hostServed | granted => simp [h]
  | present effect row => cases row <;> simp [h]
  | timed effect due row =>
    cases row
    case scan closed mode => simpa using scan_ks (s := clockTo due s) closed (by simpa using h) (by simpa using mode)
    case wakeScan closed mode => simp [h, held_of_wake h mode]
    all_goals simp [h]

theorem reaches_print {s t : State} (h : s.ps.bounded) (reaches : Reaches s t) : t.ps.bounded := by
  cases reaches with
  | unchanged => exact h
  | powerOn | lineAsserted | lineReleased | hostWaits | hostServed | granted => simp [h]
  | present effect row => cases row <;> simp [h]
  | timed effect due row => cases row <;> simp [h]

theorem reaches_strobe {s t : State} (h : s.sp.bounded) (reaches : Reaches s t) : t.sp.bounded := by
  cases reaches with
  | unchanged => exact h
  | powerOn | lineAsserted | lineReleased | hostWaits | hostServed | granted => simp [h]
  | present effect row => cases row <;> simp [h]
  | timed effect due row => cases row <;> simp [h]

theorem reaches_paper {s t : State} (h : s.pd.bounded) (reaches : Reaches s t) : t.pd.bounded := by
  cases reaches with
  | unchanged => exact h
  | powerOn | lineAsserted | lineReleased | hostWaits | hostServed | granted => simp [h]
  | present effect row => cases row <;> simp [h]
  | timed effect due row => cases row <;> simp [h]

theorem reaches_dirty {s t : State} (h : s.cbm.bounded) (reaches : Reaches s t) : t.cbm.bounded := by
  cases reaches with
  | unchanged => exact h
  | powerOn | lineAsserted | lineReleased | hostWaits | hostServed | granted => simp [h]
  | present effect row => cases row <;> simp [h]
  | timed effect due row => cases row <;> simp [h]

/-! ## The phase of the tone out (R44) -/

/-- Nothing passes within a moment. -/
theorem phasePassed_self (l : LineUnit) (a : Nat) : l.phasePassed a a = 0 := by
  simpa using phasePassed_eq_sum l a a

/-- From one state to another the clock does not go back, and the phase of the tone out runs on. -/
def ToneRunsOn (s t : State) : Prop :=
  s.env.now ≤ t.env.now ∧
    t.env.tonePhase = (s.env.tonePhase + s.lu.phasePassed s.env.now t.env.now) % 1000000 ∧ t.env.tonePhase < 1000000

/-- At the same moment the phase stands where it stood. -/
theorem toneRunsOn_of_still {s t : State} (small : s.env.tonePhase < 1000000) (now : t.env.now = s.env.now)
    (phase : t.env.tonePhase = s.env.tonePhase) : ToneRunsOn s t := by
  refine ⟨now.ge, ?_, phase ▸ small⟩
  rw [now, phase, phasePassed_self, Nat.add_zero, Nat.mod_eq_of_lt small]

/-- The clock's move carries it. -/
theorem toneRunsOn_clockTo (due : Nat) (s : State) : ToneRunsOn s (clockTo due s) :=
  ⟨Nat.le_max_left _ _, rfl, Nat.mod_lt _ (by decide)⟩

/-- What happens at the moment reached leaves the phase. -/
theorem toneRunsOn_of_reached {s t u : State} (h : ToneRunsOn s u) (now : t.env.now = u.env.now)
    (phase : t.env.tonePhase = u.env.tonePhase) : ToneRunsOn s t := by
  unfold ToneRunsOn at *; rwa [now, phase]

theorem reaches_tone {s t : State} (small : s.env.tonePhase < 1000000) (reaches : Reaches s t) : ToneRunsOn s t := by
  cases reaches with
  | unchanged | powerOn | lineAsserted => exact toneRunsOn_of_still small rfl rfl
  | lineReleased | hostWaits | hostServed | granted => exact toneRunsOn_of_still small (by simp) (by simp)
  | present effect row => cases row <;> exact toneRunsOn_of_still small (by simp) (by simp)
  | timed effect due row =>
    cases row <;> exact toneRunsOn_of_reached (toneRunsOn_clockTo due s) (by simp) (by simp)

end Sys2Proof.Machine

namespace Sys2Proof.Proofs

open Sys2Proof Sys2Proof.Machine

theorem everyStepKeepsHeatInRange : Claims.EveryStepKeepsHeatInRange := fun _ _ =>
  step_keeps (P := HeatBounded) (fun _ h => h) (fun _ _ h => h) (fun _ _ => reaches_heat)

theorem everyStepKeepsSettingsInRange : Claims.EveryStepKeepsSettingsInRange := fun _ _ =>
  step_keeps (P := fun s => SettingsInRange s.cbm.settings) (fun _ h => h) (fun _ _ h => h) (fun _ _ => reaches_settings)

theorem everyStepKeepsLineStreamAndKeysBounded : Claims.EveryStepKeepsLineStreamAndKeysBounded :=
  ⟨fun _ _ => step_keeps (P := fun s => s.lu.bounded) (fun _ h => h) (fun _ _ h => h) (fun _ _ => reaches_line),
    fun _ _ => step_keeps (P := fun s => s.su.bounded) (fun _ h => h) (fun _ _ h => h) (fun _ _ => reaches_stream),
    fun _ _ => step_keeps (P := fun s => s.ks.bounded) (fun _ h => h) (fun _ _ h => h) (fun _ _ => reaches_keys)⟩

theorem everyStepKeepsPrinterAndPortBounded : Claims.EveryStepKeepsPrinterAndPortBounded :=
  ⟨fun _ _ => step_keeps (P := fun s => s.ps.bounded) (fun _ h => h) (fun _ _ h => h) (fun _ _ => reaches_print),
    fun _ _ => step_keeps (P := fun s => s.sp.bounded) (fun _ h => h) (fun _ _ h => h) (fun _ _ => reaches_strobe),
    fun _ _ => step_keeps (P := fun s => s.pd.bounded) (fun _ h => h) (fun _ _ h => h) (fun _ _ => reaches_paper),
    fun _ _ => step_keeps (P := fun s => s.cbm.bounded) (fun _ h => h) (fun _ _ h => h) (fun _ _ => reaches_dirty),
    fun _ _ => step_keeps (P := CountsBounded) (fun _ h => h) (fun _ _ h => h) (fun _ _ => reaches_counts)⟩

theorem everyStepKeepsTonePhaseContinuous : Claims.EveryStepKeepsTonePhaseContinuous := by
  intro s t small h
  obtain rfl | ⟨rest, reaches⟩ := step_cases h
  · exact toneRunsOn_clockTo (s.env.now + 1) s
  · exact reaches_tone (s := s.withPending rest) small reaches

/-- Settles O60: each bound is kept by every shape of a step, and by idling, which only moves the clock. -/
theorem everyStepKeepsItsBounds : Obligations.EveryStepKeepsItsBounds :=
  ⟨everyStepKeepsHeatInRange, everyStepKeepsSettingsInRange, everyStepKeepsLineStreamAndKeysBounded,
    everyStepKeepsPrinterAndPortBounded, everyStepKeepsTonePhaseContinuous⟩

/-- Settles O52: the power-on values, read off. -/
theorem resetStateIsWithinBounds : Obligations.ResetStateIsWithinBounds := by
  refine ⟨rfl, ⟨rfl, by decide⟩, ?_, defaultSettings_inRange, ?_, ⟨Nat.zero_le _, Nat.zero_le _⟩, by decide⟩
  · have off : ∀ w ∈ State.reset.mp.windows, w.enabled = false := by decide
    exact partPagesClear_iff.mpr ⟨pagesApart_of_disabled off, fun _ => off⟩
  · unfold Bounded
    refine ⟨?_, ?_, ?_, ?_, ?_, ?_, ?_⟩
    · exact ⟨by decide, by decide, by decide, by decide, trivial, by decide⟩
    · exact ⟨by decide, by decide, by decide, fun h => absurd h (by decide)⟩
    · exact ⟨by decide, by decide, by decide, by decide, fun _ => rfl⟩
    · exact Nat.zero_le _
    · exact ⟨fun _ => rfl, fun _ h => nomatch h⟩
    · exact Nat.succ_pos _
    · exact List.Sublist.refl _

end Sys2Proof.Proofs
end

section
/-! PROOFS. The end of an event (`settle`), said once as one equation, and the statements about it (O3). -/

namespace Sys2Proof.Machine

open Sys2Proof

/-! ## The end of an event (R183, R37, R135, R24) -/

/-- PS's next access joins a state that has none. -/
theorem presentPs_eq (s : State) : presentPs s =
    s.withPs { s.ps with access := match s.ps.access with | some a => some a | none => nextPsAccess s } := by
  unfold presentPs
  cases h : s.ps.access with
  | none => rfl
  | some a => exact congrArg (fun x => s.withPs { s.ps with access := x }) h

/-- CBM's next access, from its three parts. -/
theorem presentCbm_eq (s : State) : presentCbm s = s.withCbm { s.cbm with
    access := match s.cbm.access, s.cbm.answers, s.cbm.dirty with
      | some a, _, _ => some a
      | none, _ :: _, _ => some .answer
      | none, [], o :: _ => some (.status o)
      | none, [], [] => none } := by
  unfold presentCbm nextCbmAccess
  cases h : s.cbm.access with
  | some a => exact congrArg (fun x => s.withCbm { s.cbm with access := x }) h
  | none =>
    cases s.cbm.answers with
    | cons => rfl
    | nil => cases s.cbm.dirty <;> rfl

/-- A state with its dirty set and its presented accesses chosen anew; nothing else changes. -/
def reported (dirty : List Nat) (r : State) : State :=
  (r.withPs { r.ps with access := match r.ps.access with | some a => some a | none => nextPsAccess r }).withCbm
    { r.cbm with
      dirty := dirty
      access := match r.cbm.access, r.cbm.answers, dirty with
        | some a, _, _ => some a
        | none, _ :: _, _ => some .answer
        | none, [], o :: _ => some (.status o)
        | none, [], [] => none }

/-- The dirty set at the end of an event. -/
def dirtyAfter (before r : State) : List Nat :=
  statusOffsets.filter (fun o => r.cbm.dirty.contains o || statusValue before o != statusValue r o)

/-- The end of an event, in one equation. -/
theorem settle_eq (before s : State) :
    settle before s = reported (dirtyAfter before (reattempt before s)) (reattempt before s) := by
  unfold settle
  rw [presentCbm_eq, presentPs_eq]
  rfl

/-- PD makes no further attempt unless it waits, an input of the gate changed, and the attempt allows the step. -/
theorem reattempt_of_not {before s : State}
    (h : ¬(s.pd.stepState = .waiting ∧ gateChanged before s = true ∧ attemptAllows s = true)) :
    reattempt before s = s := if_neg h

theorem gateChanged_iff (before s : State) : gateChanged before s = true ↔
    before.lu.receiver.stage ≠ s.lu.receiver.stage ∨ before.lu.idleMark ≠ s.lu.idleMark ∨
      before.lu.lineState ≠ s.lu.lineState ∨ before.lu.quiet ≠ s.lu.quiet ∨
      before.cbm.settings.stepGate ≠ s.cbm.settings.stepGate := by
  unfold gateChanged
  simp only [Bool.or_eq_true, bne_iff_ne, or_assoc]

/-- An event that leaves LU and the STEP_GATE shadow changes no input of the gate. -/
theorem gateChanged_of_same {before s : State} (line : s.lu = before.lu)
    (gate : s.cbm.settings.stepGate = before.cbm.settings.stepGate) : gateChanged before s = false := by
  rw [← Bool.not_eq_true, gateChanged_iff, line, gate]
  simp

theorem reattempt_of_same {before s : State} (line : s.lu = before.lu)
    (gate : s.cbm.settings.stepGate = before.cbm.settings.stepGate) : reattempt before s = s :=
  reattempt_of_not fun h => by rw [gateChanged_of_same line gate] at h; cases h.2.1

/-! ## The values behind the status offsets (R37) -/

theorem bitVal_le (b : Bool) (weight : Nat) : bitVal b weight ≤ weight := by cases b <;> simp [bitVal]

theorem lineStateCode_lt (l : LineState) : l.code < 256 := by cases l <;> simp [LineState.code]

theorem engineCode_lt (e : Engine) : e.code < 256 := by cases e <;> decide

theorem windowFlags_lt (w : Window) : w.flags < 256 := by
  have enable := bitVal_le w.enabled 1
  have invert := bitVal_le w.invert 2
  unfold Window.flags
  omega

/-- The first offset of each window carries the flags of the window there. -/
theorem statusValue_windowFlags_lt (s : State) {o : Nat} (h : o = 0x30 ∨ o = 0x33 ∨ o = 0x36 ∨ o = 0x39) :
    statusValue s o < 256 := by
  rcases h with rfl | rfl | rfl | rfl <;> exact windowFlags_lt _

/-- The status offsets of one byte by their nature. -/
theorem statusValue_byte (s : State) {o : Nat}
    (h : o ∈ [0x1C, 0x1D, 0x1E, 0x1F, 0x20, 0x23, 0x24, 0x2B, 0x30, 0x33, 0x36, 0x39]) : statusValue s o < 256 := by
  simp only [List.mem_cons, List.not_mem_nil, or_false] at h
  rcases h with rfl | rfl | rfl | rfl | rfl | rfl | rfl | rfl | window
  · exact s.cbm.flagsLo.isLt
  · exact s.cbm.flagsHi.isLt
  · exact summary_lt s
  · exact lineStateCode_lt _
  · exact engineCode_lt _
  · exact (BitVec.ofInt 8 s.headTemp).isLt
  · exact hottest_lt s
  · exact Nat.lt_of_le_of_lt (bitVal_le s.mp.tight 1) (by decide)
  · exact statusValue_windowFlags_lt s window

end Sys2Proof.Machine

namespace Sys2Proof.Proofs

open Sys2Proof Sys2Proof.Machine

/-- Settles O3: the equation of `settle`, the three conditions of the further attempt, and the status values offset by
offset. -/
theorem endOfEventReportsAndPresents : Obligations.EndOfEventReportsAndPresents := by
  refine ⟨settle_eq, fun _ _ h => reattempt_of_not fun k => h k.1, fun _ _ h => reattempt_of_not fun k => ?_,
    gateChanged_iff, fun _ _ h => reattempt_of_not fun k => ?_, fun _ _ waits changed allows => ?_, fun s o _ => ?_,
    fun s _ h => statusValue_byte s h, fun s => ⟨rfl, rfl, rfl, rfl, rfl, rfl, rfl, rfl, fun i hi w hw => ?_⟩⟩
  · rw [h] at k; cases k.2.1
  · rw [h] at k; cases k.2.2
  · exact if_pos ⟨waits, changed, allows⟩
  · unfold statusByte; split <;> rfl
  · exact (statusValue_window hi hw).2

end Sys2Proof.Proofs
end

section
/-! PROOFS. The host's accesses: the row of each byte of the control block, a write there by its class, and the slot of each host
row (R1 to R7, R10, R22). The statements: O6, O7, O8, O16. -/

namespace Sys2Proof.Machine

open Sys2Proof Sys2Proof.Claims

/-! ## Addresses of the control block (R1) -/

theorem base_eq (s : State) : s.base =
    if s.mp.straps = 0 then 0x7F80 else if s.mp.straps = 1 then 0x7F00 else if s.mp.straps = 2 then 0x0000 else 0x0080 := by
  unfold State.base
  generalize s.mp.straps = straps
  revert straps
  decide

theorem base_le (s : State) : s.base ≤ 0x7F80 := by
  rw [base_eq]
  repeat' split
  all_goals decide

/-- A control block offset lies inside RAM. -/
theorem toNat_blockAddr (s : State) {o : Nat} (h : o ≤ 0x7F) : (addrOf (s.base + o)).toNat = s.base + o := by
  have := base_le s
  rw [BitVec.toNat_ofNat]
  omega

theorem inBlock_iff (s : State) (a : Addr) : s.inBlock a = true ↔ s.base ≤ a.toNat ∧ a.toNat ≤ s.base + 0x7F := by
  unfold State.inBlock
  rw [Bool.and_eq_true, decide_eq_true_iff, decide_eq_true_iff]

theorem partOwned_iff (slotBusy : Bool) (o : Nat) : partOwned slotBusy o = true ↔
    o = 0x01 ∨ (0x18 ≤ o ∧ o ≤ 0x2B) ∨ (0x30 ≤ o ∧ o ≤ 0x3B) ∨
      (slotBusy = true ∧ (o = 0x00 ∨ (0x02 ≤ o ∧ o ≤ 0x07))) := by
  unfold partOwned
  simp only [Bool.or_eq_true, Bool.and_eq_true, beq_iff_eq, decide_eq_true_iff, or_assoc]

/-! ## A write landed (R6) -/

/-- A byte that has landed changes RAM and the arbiter's counts only. -/
@[simp] theorem landed_frame (o : Nat) (v : Byte) (s : State) :
    (landed o v s).pending = s.pending ∧ (landed o v s).env = s.env ∧ (landed o v s).mp = (countHost s).mp ∧
    (landed o v s).cbm = s.cbm ∧ (landed o v s).lu = s.lu ∧ (landed o v s).su = s.su ∧ (landed o v s).ks = s.ks ∧
    (landed o v s).ps = s.ps ∧ (landed o v s).sp = s.sp ∧ (landed o v s).hm = s.hm ∧ (landed o v s).sm = s.sm ∧
    (landed o v s).pd = s.pd :=
  ⟨rfl, rfl, rfl, rfl, rfl, rfl, rfl, rfl, rfl, rfl, rfl, rfl⟩

/-! ## Host writes by class (R4, R5, R7) -/

/-- What the arbiter's count leaves, the class of a write is judged by. -/
theorem classify_countHost (s : State) (a : Addr) : classify (countHost s) a = classify s a := rfl

theorem hostGrant_owned {s : State} {a : Addr} (v : Byte) (inside : s.inBlock a = true)
    (owned : partOwned s.cbm.slotBusy (a.toNat - s.base) = true) :
    hostGrant (.write a v) s = (countHost s).withCbm { s.cbm with flagsLo := s.cbm.flagsLo ||| 0x02 } := by
  dsimp only [hostGrant]
  unfold deliverWrite
  rw [classify_countHost, classify, if_pos inside, if_pos owned]
  rfl

theorem hostGrant_snooped {s : State} {a : Addr} (v : Byte) (inside : s.inBlock a = true)
    (free : partOwned s.cbm.slotBusy (a.toNat - s.base) = false) :
    hostGrant (.write a v) s = snoop (a.toNat - s.base) v (writeByte a v (countHost s)) := by
  dsimp only [hostGrant]
  unfold deliverWrite
  rw [classify_countHost, classify, if_pos inside, if_neg (by simp [free])]

theorem hostGrant_guarded {s : State} {a : Addr} (v : Byte) (outside : s.inBlock a = false)
    (guarded : s.mp.guardedSet (a.toNat / 256) = true) :
    hostGrant (.write a v) s = (((countHost s).withMp { (countHost s).mp with
      guardHits := if s.mp.guardHits < 255 then s.mp.guardHits + 1 else s.mp.guardHits
      guardFirst := if s.cbm.flagsLo.getLsbD 0 then s.mp.guardFirst else a.zeroExtend 16 }).withCbm
        { s.cbm with flagsLo := s.cbm.flagsLo ||| 0x01 }) := by
  dsimp only [hostGrant]
  unfold deliverWrite
  rw [classify_countHost, classify, if_neg (by simp [outside]), pageOf, if_pos guarded]
  rfl

theorem hostGrant_plain {s : State} {a : Addr} (v : Byte) (outside : s.inBlock a = false)
    (open_ : s.mp.guardedSet (a.toNat / 256) = false) :
    hostGrant (.write a v) s = writeByte a v (countHost s) := by
  dsimp only [hostGrant]
  unfold deliverWrite
  rw [classify_countHost, classify, if_neg (by simp [outside]), pageOf, if_neg (by simp [open_])]

/-! ## Snooped writes by offset (R22) -/

theorem snoop_arg (i : Fin 6) (v : Byte) (s : State) : snoop (0x02 + i.val) v s = takeArg i v s := by
  revert i
  intro ⟨i, hi⟩
  obtain rfl | rfl | rfl | rfl | rfl | rfl : i = 0 ∨ i = 1 ∨ i = 2 ∨ i = 3 ∨ i = 4 ∨ i = 5 := by omega
  all_goals rfl

theorem snoop_setting (reg : SettingReg) (v : Byte) (s : State) :
    snoop (SettingReg.offset reg) v s = takeSetting reg v s := by cases reg <;> rfl

theorem snoop_geometry (reg : GeometryReg) (v : Byte) (s : State) :
    snoop (GeometryReg.offset reg) v s = takeGeometry reg v s := by cases reg <;> rfl

theorem snoop_producer (reg : ProducerIndex) (v : Byte) (s : State) :
    snoop (ProducerIndex.offset reg) v s = takeProducer reg v s := by cases reg <;> rfl

theorem snoop_consumer (reg : ConsumerIndex) (v : Byte) (s : State) :
    snoop (ConsumerIndex.offset reg) v s = takeConsumer reg v s := by cases reg <;> rfl

theorem snoop_acknowledge (word : FlagWord) (v : Byte) (s : State) :
    snoop (FlagWord.ackOffset word) v s = acknowledgeWord word v s := by cases word <;> rfl

theorem snoop_command {code : Byte} (h : code ≠ 0) (s : State) : snoop 0x00 code s = takeCommand code s := if_neg h

/-- At an inert offset a write only lands. -/
theorem snoop_inert {o : Nat} {v : Byte} (h : inertOffset o v) (s : State) : snoop o v s = s := by
  rcases h with ⟨rfl, rfl⟩ | ⟨lo, hi⟩ | rfl | rfl | ⟨lo, hi⟩ | ⟨lo, hi⟩ | ⟨lo, hi⟩ | ⟨lo, hi⟩ | ⟨lo, hi⟩
  all_goals first | rfl | (interval_cases o <;> rfl)

/-! ## The host's rows -/

/-- A row that writes a control block byte is a host write of that byte. -/
theorem exec_of_blockWrite {c : Instr} {o : Nat} {v : Byte} (row : blockWriteOf c = some (o, v)) (s : State) :
    exec c s = hostPresent (.write (addrOf (s.base + o)) v) s := by
  cases c <;> cases row <;> rfl

theorem blockWriteOf_le {c : Instr} {o : Nat} {v : Byte} (row : blockWriteOf c = some (o, v)) : o ≤ 0x7F := by
  cases c
  case argWrite i _ => cases row; omega
  case settingWrite reg _ => cases row; cases reg <;> decide
  case geometryWrite reg _ => cases row; cases reg <;> decide
  case producerIndexWrite reg _ => cases row; cases reg <;> decide
  case consumerIndexWrite reg _ => cases row; cases reg <;> decide
  case acknowledge word _ => cases word <;> cases row <;> decide
  all_goals cases row
  all_goals exact Nat.zero_le _

/-- The row of an access presents it. -/
theorem exec_of_access {c : Instr} {s : State} {x : HostAccess} (row : accessOf s c = some x) :
    exec c s = hostPresent x s := by
  unfold accessOf at row
  split at row
  next => cases row; rfl
  next => cases row; rfl
  next =>
    obtain ⟨⟨o, v⟩, write, rfl⟩ := Option.map_eq_some_iff.mp row
    exact exec_of_blockWrite write s

/-- A control block write whose turn it is, at an offset the host owns: CBM acts on it with the byte landed. -/
theorem exec_snooped {c : Instr} {o : Nat} {v : Byte} {s : State} (row : blockWriteOf c = some (o, v))
    (goes : HostGoes s) (free : partOwned s.cbm.slotBusy o = false) :
    exec c s = .next (settle s (snoop o v (landed o v s))) := by
  have addr := toNat_blockAddr s (blockWriteOf_le row)
  have small := blockWriteOf_le row
  have offset : (addrOf (s.base + o)).toNat - s.base = o := by omega
  rw [exec_of_blockWrite row, hostPresent_of_turn goes.1 goes.2, hostGrant_snooped v, offset]
  · rfl
  · exact (inBlock_iff s _).mpr (by omega)
  · rwa [offset]

/-- The same at an offset the part owns: an owned drop. -/
theorem exec_owned {c : Instr} {o : Nat} {v : Byte} {s : State} (row : blockWriteOf c = some (o, v))
    (goes : HostGoes s) (owned : partOwned s.cbm.slotBusy o = true) :
    exec c s = .next (settle s ((countHost s).withCbm { s.cbm with flagsLo := s.cbm.flagsLo ||| 0x02 })) := by
  have addr := toNat_blockAddr s (blockWriteOf_le row)
  have small := blockWriteOf_le row
  have offset : (addrOf (s.base + o)).toNat - s.base = o := by omega
  rw [exec_of_blockWrite row, hostPresent_of_turn goes.1 goes.2, hostGrant_owned v]
  · exact (inBlock_iff s _).mpr (by omega)
  · rwa [offset]

/-- A command row writes its code to CMD. -/
theorem blockWriteOf_command {c : Instr} {code : Byte} (row : codeOf c = some code) : blockWriteOf c = some (0x00, code) := by
  cases c <;> cases row <;> rfl

/-! ## Commands taken (R23 to R25) -/

/-- The slot's own bytes are the host's while the slot is FREE. -/
theorem slot_free {s : State} (h : s.cbm.slotBusy = false) {o : Nat} (slot : o = 0x00 ∨ (0x02 ≤ o ∧ o ≤ 0x07)) :
    partOwned s.cbm.slotBusy o = false := by
  rw [← Bool.not_eq_true, partOwned_iff, h]
  simp only [Bool.false_eq_true, false_and, or_false]
  omega

/-- Every other byte the host owns is the host's in both slot states. -/
theorem host_owned (slotBusy : Bool) {o : Nat} (h : (0x10 ≤ o ∧ o ≤ 0x15) ∨ (0x40 ≤ o ∧ o ≤ 0x7F)) :
    partOwned slotBusy o = false := by
  rw [← Bool.not_eq_true, partOwned_iff]
  omega

/-- A command written to a FREE slot is taken. -/
theorem exec_command {c : Instr} {code : Byte} {s : State} (row : codeOf c = some code) (nonzero : code ≠ 0)
    (goes : HostGoes s) (slot : s.cbm.slotBusy = false) :
    exec c s = .next (settle s (takeCommand code (landed 0x00 code s))) := by
  rw [exec_snooped (blockWriteOf_command row) goes (slot_free slot (.inl rfl)), snoop_command nonzero]

/-- What a command owes, unless it is a RINGS_RESET that executed. -/
theorem owedFor_plain {code : Byte} {r : Result} (plain : commandOf code ≠ some .ringsReset ∨ r ≠ .ok) :
    owedFor code r = [.result r.code, .clearCmd] := by
  unfold owedFor
  rw [if_neg]
  · rfl
  · rintro ⟨rings, ok⟩
    exact plain.elim (fun h => h rings) (fun h => h ok)

/-- A command taken, from its answer and the state of its effect. -/
theorem takeCommand_of_answer {code : Byte} {s : State} {r : Result} {u : State} (answer : decideAnswer code s = (r, u)) :
    takeCommand code s = u.withCbm { u.cbm with slotBusy := true, answers := u.cbm.answers ++ owedFor code r } := by
  unfold takeCommand
  rw [answer]

theorem takeCommand_eq_answered {code : Byte} {s : State} {r : Result} {u : State}
    (answer : decideAnswer code s = (r, u)) (plain : commandOf code ≠ some .ringsReset ∨ r ≠ .ok) :
    takeCommand code s = answered r.code u := by
  rw [takeCommand_of_answer answer, owedFor_plain plain]
  rfl

/-- In standby every command but WAKE is turned away. -/
theorem decideAnswer_in_standby {code : Byte} {s : State} (standby : s.cbm.standby = true)
    (other : commandOf code ≠ some .wake) : decideAnswer code s = (.inStandby, s) := if_pos ⟨standby, other⟩

/-- A code outside the table. -/
theorem decideAnswer_unknown {code : Byte} {s : State} (awake : s.cbm.standby = false)
    (unknown : commandOf code = none) : decideAnswer code s = (.unknown, discardPending s) := by
  unfold decideAnswer
  rw [if_neg (by simp [awake]), unknown]

/-- A command of the table runs under the rule of its owner. -/
theorem decideAnswer_runs {code : Byte} {k : Command} {s : State} (known : commandOf code = some k)
    (may : s.cbm.standby = false ∨ k = .wake) : decideAnswer code s = runCommand k s := by
  unfold decideAnswer
  rw [known, if_neg]
  rintro ⟨standby, other⟩
  rcases may with awake | rfl
  · simp [awake] at standby
  · exact other rfl

/-- A command that runs, from the answer and the effect of its owner's rule. -/
theorem exec_runs {c : Instr} {code : Byte} {k : Command} {s : State} {r : Result} {u : State}
    (row : codeOf c = some code) (known : commandOf code = some k) (goes : HostGoes s) (slot : s.cbm.slotBusy = false)
    (may : s.cbm.standby = false ∨ k = .wake) (run : runCommand k (landed 0x00 code s) = (r, u))
    (plain : k ≠ .ringsReset ∨ r ≠ .ok) : exec c s = .next (settle s (answered r.code u)) := by
  have nonzero : code ≠ 0 := by rintro rfl; cases known
  rw [exec_command row nonzero goes slot,
    takeCommand_eq_answered ((decideAnswer_runs known (by simpa using may)).trans run)]
  exact plain.imp_left fun other rings => other (Option.some.inj (known.symm.trans rings))

/-- The code of WAKE is its only one. -/
theorem commandOf_wake {code : Byte} (h : commandOf code = some .wake) : code = 0x51 := by
  revert code
  decide

theorem commandOf_of_notIn {code : Byte} (h : commandCodes.contains code = false) : commandOf code = none := by
  revert code
  decide

/-! ## The slot of a host access (R10) -/

/-- An access that is chosen is presented, outside a held reset line. -/
theorem presents_of_pick {s : State} {r : Requester} (chosen : pick s = some r) :
    s.mp.resetHeld = false ∧ presents s r = true := by
  unfold pick at chosen
  split at chosen; · cases chosen
  next free =>
    refine ⟨by simpa using free, ?_⟩
    repeat' split at chosen
    all_goals first | cases chosen; simp_all | cases chosen

theorem internalWaiting_of_presents {s : State} {r : Requester} (h : presents s r = true) : internalWaiting s = true := by
  unfold internalWaiting
  cases r <;> simp [h]

/-- With the host's run at 8 and an internal access chosen the slot is contended. -/
theorem contended_of_pick {s : State} {r : Requester} (full : 8 ≤ s.mp.hostRun) (chosen : pick s = some r) :
    contended s = true := by
  unfold contended
  rw [internalWaiting_of_presents (presents_of_pick chosen).2, Bool.and_true, decide_eq_true_iff]
  exact full

/-- After an internal grant it is the host's turn. -/
theorem hostGoes_grantTo {s : State} (r : Requester) (free : s.mp.resetHeld = false) : HostGoes (grantTo r s) :=
  ⟨by simpa using free, contended_eq_false_iff.mp (contended_grantTo r s)⟩

theorem serveWaiting_of_goes {s : State} (goes : HostGoes s) (x : HostAccess) :
    serveWaiting x s = settle s (hostGrant x s) := serveWaiting_of_turn (contended_eq_false_iff.mpr goes.2)

theorem hostServe_of_goes {s : State} (goes : HostGoes s) (x : HostAccess) :
    hostServe x s = settle s (hostGrant x s) := by
  unfold hostServe
  rw [if_neg (by simp [contended_eq_false_iff.mpr goes.2]), serveWaiting_of_goes goes]

/-- A waiting access behind a contended slot. -/
theorem serveWaiting_behind {s : State} {r : Requester} (full : 8 ≤ s.mp.hostRun) (chosen : pick s = some r)
    (x : HostAccess) : serveWaiting x s = serveWaiting x (grantTo r s) := by
  rw [serveWaiting_of_contended (contended_of_pick full chosen) chosen,
    serveWaiting_of_goes (hostGoes_grantTo r (presents_of_pick chosen).1)]

theorem hostServe_behind {s : State} {r : Requester} (full : 8 ≤ s.mp.hostRun) (chosen : pick s = some r)
    (x : HostAccess) : hostServe x s = serveWaiting x (grantTo r (hostWait x s)) := by
  unfold hostServe
  rw [if_pos (contended_of_pick full chosen)]
  exact serveWaiting_behind (s := hostWait x s) full chosen x

/-- A presented access waits on through the grant before it. -/
theorem waitAsserted_grantTo (r : Requester) (x : HostAccess) (s : State) :
    waitAsserted (grantTo r (hostWait x s)) = true := by
  unfold waitAsserted
  rw [(grantTo_frame r (hostWait x s)).2.2.2.2.2.2.2.2.2.1]
  simp [hostWait]

theorem waitAsserted_iff (s : State) : waitAsserted s = true ↔ s.mp.hostWaiting ≠ [] := by
  unfold waitAsserted
  simp

/-- The grant row of what the chosen requester presents is that grant. -/
theorem exec_grantRow {s : State} {r : Requester} {c : Instr} (chosen : pick s = some r) (row : grantRow s r = some c) :
    exec c s = .next (grantTo r s) := by
  unfold grantRow at row
  cases r <;> dsimp only at row
  case su =>
    split at row
    next => cases row
    next h => cases row; exact grantWhen_of_chosen chosen (by simp [h])
    next none index =>
      cases row
      refine grantWhen_of_chosen chosen ?_
      cases h : s.su.deposit <;> simp_all [Deposit.isByte]
  case lu =>
    split at row
    next => cases row
    next h => cases row; exact grantWhen_of_chosen chosen (by simp [h])
    next h => cases row; exact grantWhen_of_chosen chosen (by simp [h])
  case ks =>
    split at row
    next => cases row
    next h => cases row; exact grantWhen_of_chosen chosen (by simp [h])
    next h => cases row; exact grantWhen_of_chosen chosen (by simp [h, Processing.isByte])
    next h => cases row; exact grantWhen_of_chosen chosen (by simp [h])
  case ps =>
    split at row
    next => cases row
    next h => cases row; exact grantWhen_of_chosen chosen (by simp [h])
    next h => cases row; exact grantWhen_of_chosen chosen (by simp [h])
    next h => cases row; exact grantWhen_of_chosen chosen (by simp [h, isDescriptorRead])
    next h => cases row; exact grantWhen_of_chosen chosen (by simp [h, isImageRead])
  case cbm =>
    split at row
    next h => cases row; exact grantWhen_of_chosen chosen (by simp [statusPresented, h])
    next h k => cases row; exact grantWhen_of_chosen chosen (by simp [answerPresented, h, k, OwedWrite.isPartIndex])
    next h k => cases row; exact grantWhen_of_chosen chosen (by simp [answerPresented, h, k, OwedWrite.isResult])
    next h k => cases row; exact grantWhen_of_chosen chosen (by simp [answerPresented, h, k, OwedWrite.isClear])
    next => cases row

/-! ## A host read (R3) -/

/-- The end of a read's event: nothing of the mirror changed, so only the presented accesses may change, and the dirty set gains
nothing. -/
theorem settle_hostRead (a : Addr) (s : State) : settle s (hostGrant (.read a) s) =
    reported (statusOffsets.filter (fun o => s.cbm.dirty.contains o)) (hostGrant (.read a) s) := by
  have still : reattempt s (hostGrant (.read a) s) = hostGrant (.read a) s := reattempt_of_same rfl rfl
  rw [settle_eq, still]
  congr 1
  unfold dirtyAfter
  refine List.filter_congr fun o _ => ?_
  have same : statusValue (hostGrant (.read a) s) o = statusValue s o := rfl
  rw [same, bne_self_eq_false, Bool.or_false]
  rfl

end Sys2Proof.Machine

namespace Sys2Proof.Proofs

open Sys2Proof Sys2Proof.Machine Sys2Proof.Claims

/-- Settles O6: the host's turn, the slot that goes to the internal side, and the held line, each from its own lemma. -/
theorem hostRowsTakeTheirSlot : Obligations.HostRowsTakeTheirSlot := by
  refine ⟨waitAsserted_iff, fun s r c => exec_grantRow, fun x s => ⟨fun goes => ?_, fun r full chosen => ?_⟩,
    fun c s x row => ⟨fun held => ?_, fun r full chosen => ?_, fun goes => ?_⟩⟩
  · refine ⟨hostServe_of_goes goes x, serveWaiting_of_goes goes x, ?_⟩
    rw [hostServe_of_goes goes]
    cases x <;> exact hostPresent_of_turn goes.1 goes.2
  · have free := (presents_of_pick chosen).1
    exact ⟨⟨waitAsserted_grantTo r x s, hostGoes_grantTo (s := hostWait x s) r free⟩, hostServe_behind full chosen x,
      hostGoes_grantTo r free, serveWaiting_behind full chosen x⟩
  · rw [exec_of_access row]
    exact hostPresent_of_held held
  · have free := (presents_of_pick chosen).1
    rw [exec_of_access row, hostPresent, if_neg (by simp [free]), hostServe_behind full chosen,
      serveWaiting_of_goes (hostGoes_grantTo (s := hostWait x s) r free)]
    rfl
  · rw [exec_of_access row]
    exact hostPresent_of_turn goes.1 goes.2

/-- Settles O7: the grant of a read changes the host's byte and the counts, and the end of its event reports nothing. -/
theorem hostReadGivesTheRamByte : Obligations.HostReadGivesTheRamByte := by
  intro a s goes
  refine ⟨_, hostPresent_of_turn goes.1 goes.2, ?_⟩
  rw [settle_hostRead]
  refine ⟨rfl, rfl, rfl, fun o mem => ?_, rfl, rfl, rfl, rfl, rfl, rfl, rfl, rfl, rfl, rfl, rfl⟩
  simpa using (List.mem_filter.mp mem).2

/-- Settles O8: the classes of a host write, and the row of each byte of the control block. -/
theorem hostWriteByItsClass : Obligations.HostWriteByItsClass := by
  refine ⟨base_eq, inBlock_iff, partOwned_iff, fun a v s goes inside owned => ?_, fun a v s goes outside guarded => ?_,
    fun a v s goes outside unguarded => ?_, fun a v s goes inside free inert => ?_, fun c s o v row => ?_⟩
  · rw [← hostGrant_owned v inside owned]
    exact hostPresent_of_turn goes.1 goes.2
  · rw [← hostGrant_guarded v outside guarded]
    exact hostPresent_of_turn goes.1 goes.2
  · rw [← hostGrant_plain v outside unguarded]
    exact hostPresent_of_turn goes.1 goes.2
  · rw [← snoop_inert inert (writeByte a v (countHost s)), ← hostGrant_snooped v inside free]
    exact hostPresent_of_turn goes.1 goes.2
  · rw [exec_of_blockWrite row]
    rfl

theorem busySlotDropsTheWrite : BusySlotDropsTheWrite := by
  refine ⟨fun c code s row goes busy => ?_, fun i v s goes busy => ?_⟩
  · exact exec_owned (blockWriteOf_command row) goes ((partOwned_iff _ _).mpr (by simp [busy]))
  · exact exec_owned (c := .argWrite i v) rfl goes ((partOwned_iff _ _).mpr (.inr (.inr (.inr ⟨busy, .inr (by omega)⟩))))

theorem standbyAndUnknownAnswers : StandbyAndUnknownAnswers := by
  refine ⟨fun c code s row nonzero other goes slot standby => ?_, fun code s wf goes slot awake => ?_⟩
  · rw [exec_command row nonzero goes slot, takeCommand_eq_answered (r := .inStandby)
      (decideAnswer_in_standby (by simpa using standby) fun h => other (commandOf_wake h)) (.inr (by decide))]
    rfl
  · have ⟨nonzero, unknown⟩ : code ≠ 0 ∧ commandCodes.contains code = false := by simpa [Instr.wellFormed] using wf
    rw [exec_command rfl nonzero goes slot, takeCommand_eq_answered (r := .unknown)
      (decideAnswer_unknown (by simpa using awake) (commandOf_of_notIn unknown)) (.inr (by decide))]
    rfl

/-- Settles O16: an owned drop while the slot is BUSY, then steps 1 and 2 of the answer. -/
theorem commandsAreTurnedAway : Obligations.CommandsAreTurnedAway := ⟨busySlotDropsTheWrite, standbyAndUnknownAnswers⟩

end Sys2Proof.Proofs
end

section
/-! PROOFS. The snooped setup writes and index writes (R22, R28 to R32, R80): O9, O10, O11. -/

namespace Sys2Proof.Machine

open Sys2Proof Sys2Proof.Claims

/-! ## The codes of the settings (R29) -/

theorem lineRateOf_eq (b : Byte) : lineRateOf b = if b = 1 then 110 else if b = 2 then 150 else 300 := by
  revert b; decide

theorem lineFormatOf_eq (b : Byte) : lineFormatOf b =
    { parity := if b.getLsbD 3 then .none else if b.toNat % 8 = 2 then .odd else if b.toNat % 8 = 3 then .mark
        else if b.toNat % 8 = 4 then .space else .even
      eightData := b.getLsbD 3
      twoStop := b.getLsbD 4 } := by
  revert b; decide

theorem stepGateOf_eq (b : Byte) : stepGateOf b =
    if b.toNat / 32 % 4 = 0 then .off else if b.toNat / 32 % 4 = 1 then .quiet else .always := by
  revert b; decide

/-- A clamp from 0 only cuts above. -/
theorem clamp_zero (hi n : Nat) : clamp 0 hi n = min hi n := by
  rw [clamp_eq_max_min (Nat.zero_le hi), Nat.zero_max]

/-! ## A setting byte (R29, R30, R80) -/

/-- Only the dependent shadows keep raw bytes. -/
theorem rawSettings_set_other {reg : SettingReg} (h1 : reg ≠ .xonFree) (h2 : reg ≠ .quietExit) (h3 : reg ≠ .stopTemp)
    (raw : RawSettings) (v : Byte) : raw.set reg v = raw := by
  cases reg
  case xonFree | quietExit | stopTemp => contradiction
  all_goals rfl

/-- The shadows formed by a write of a setting byte. -/
def settingFormed (reg : SettingReg) (v : Byte) (s : State) : State :=
  s.withCbm { s.cbm with
    raw := s.cbm.raw.set reg v, settings := s.cbm.settings.set (s.cbm.raw.set reg v) reg v }

theorem takeSetting_quiet {reg : SettingReg} {v : Byte} {s : State}
    (h : ¬(reg = .holdLimit ∧ holdRunOut (settingFormed reg v s) = true)) :
    takeSetting reg v s = settingFormed reg v s := if_neg h

theorem takeSetting_expires {v : Byte} {s : State} (h : holdRunOut (settingFormed .holdLimit v s) = true) :
    takeSetting .holdLimit v s = expireHold (settingFormed .holdLimit v s) := if_pos ⟨rfl, h⟩

/-- The hold timer has run out once the written limit, which is not 0, lies at or below the time held. -/
theorem holdRunOut_settingFormed {v : Byte} {s : State} : holdRunOut (settingFormed .holdLimit v s) = true ↔
    ∃ start, s.lu.holdTimer = some start ∧ v ≠ 0 ∧ start + min 60 v.toNat * 1000000 ≤ s.env.now := by
  have limit : (settingFormed .holdLimit v s).cbm.settings.holdLimit = min 60 v.toNat := clamp_zero 60 v.toNat
  have nonzero : v ≠ 0 ↔ min 60 v.toNat ≠ 0 := by
    rw [Ne, ← BitVec.toNat_inj]
    simp
  unfold holdRunOut
  rw [limit, nonzero]
  cases h : s.lu.holdTimer with
  | none => simp [settingFormed, h]
  | some start =>
    simp only [settingFormed, withCbm_lu, withCbm_env, h, Bool.and_eq_true, bne_iff_ne, Option.some.injEq,
      exists_eq_left']
    exact and_congr_right fun _ => decide_eq_true_iff

/-! ## Index writes (R31, R32) -/

theorem takeProducer_unset (reg : ProducerIndex) (v : Byte) {s : State} (unset : s.cbm.geometry = none) :
    takeProducer reg v s = setProducer reg v.toNat s := by
  unfold takeProducer
  rw [if_neg (by simp [ringsSet_of_unset unset])]

theorem takeProducer_above {reg : ProducerIndex} {v : Byte} {s : State} (set : s.ringsSet = true)
    (above : producerCapacity reg s ≤ v.toNat) : takeProducer reg v s = setFlag .indexError s := by
  unfold takeProducer
  rw [if_pos set, if_neg (by omega)]

theorem takeProducer_standby {reg : ProducerIndex} {v : Byte} {s : State} (set : s.ringsSet = true)
    (below : v.toNat < producerCapacity reg s) (standby : s.cbm.standby = true) :
    takeProducer reg v s = setProducer reg v.toNat s := by
  unfold takeProducer
  rw [if_pos set, if_pos below]
  dsimp only
  rw [if_pos standby]

theorem takeProducer_acts {reg : ProducerIndex} {v : Byte} {s : State} (set : s.ringsSet = true)
    (below : v.toNat < producerCapacity reg s) (awake : s.cbm.standby = false) :
    takeProducer reg v s = actOnProducer reg (setProducer reg v.toNat s) := by
  unfold takeProducer
  rw [if_pos set, if_pos below]
  dsimp only
  rw [if_neg (by simp [awake])]

theorem takeConsumer_unset (reg : ConsumerIndex) (v : Byte) {s : State} (unset : s.cbm.geometry = none) :
    takeConsumer reg v s = setConsumer reg v.toNat s := by
  unfold takeConsumer
  rw [if_neg (by simp [ringsSet_of_unset unset])]

theorem takeConsumer_off {reg : ConsumerIndex} {v : Byte} {s : State} (set : s.ringsSet = true)
    (off : onForwardPath reg v.toNat s = false) : takeConsumer reg v s = setFlag .indexError s := by
  unfold takeConsumer
  rw [if_pos set, if_neg (by simp [off])]

theorem takeConsumer_on {reg : ConsumerIndex} {v : Byte} {s : State} (set : s.ringsSet = true)
    (on : onForwardPath reg v.toNat s = true) : takeConsumer reg v s =
      if s.cbm.standby then setConsumer reg v.toNat s else actOnConsumer reg (setConsumer reg v.toNat s) := by
  unfold takeConsumer
  rw [if_pos set, if_pos on]

theorem onForwardPath_iff (reg : ConsumerIndex) (n : Nat) (s : State) : onForwardPath reg n s = true ↔
    n < consumerCapacity reg s ∧ ringDiff (consumerCapacity reg s) n (consumerShadow reg s) ≤
      ringDiff (consumerCapacity reg s) (partProducer reg s) (consumerShadow reg s) := by
  unfold onForwardPath
  rw [Bool.and_eq_true, decide_eq_true_iff, decide_eq_true_iff]

theorem onForwardPath_eq_false {reg : ConsumerIndex} {n : Nat} {s : State} (h : consumerCapacity reg s ≤ n ∨
    ringDiff (consumerCapacity reg s) (partProducer reg s) (consumerShadow reg s) <
      ringDiff (consumerCapacity reg s) n (consumerShadow reg s)) : onForwardPath reg n s = false := by
  rw [← Bool.not_eq_true, onForwardPath_iff]
  omega

/-- LU acts only on a producer index that differs from its consumer. -/
theorem actOnTxProd_same {s : State} (h : s.cbm.txProd = s.lu.txCons) : actOnProducer .txProd s = s := if_pos h

theorem actOnTxProd_ahead {s : State} (h : s.cbm.txProd ≠ s.lu.txCons) : actOnProducer .txProd s = boundary s := if_neg h

/-! ## The rows of the host's own bytes -/

theorem exec_settingWrite {reg : SettingReg} {v : Byte} {s : State} (goes : HostGoes s) :
    exec (.settingWrite reg v) s = .next (settle s (takeSetting reg v (landed (SettingReg.offset reg) v s))) := by
  rw [exec_snooped (c := .settingWrite reg v) rfl goes (host_owned _ (.inr (by cases reg <;> decide))), snoop_setting]

theorem exec_producerIndexWrite {reg : ProducerIndex} {v : Byte} {s : State} (goes : HostGoes s) :
    exec (.producerIndexWrite reg v) s =
      .next (settle s (takeProducer reg v (landed (ProducerIndex.offset reg) v s))) := by
  rw [exec_snooped (c := .producerIndexWrite reg v) rfl goes (host_owned _ (.inl (by cases reg <;> decide))),
    snoop_producer]

theorem exec_consumerIndexWrite {reg : ConsumerIndex} {v : Byte} {s : State} (goes : HostGoes s) :
    exec (.consumerIndexWrite reg v) s =
      .next (settle s (takeConsumer reg v (landed (ConsumerIndex.offset reg) v s))) := by
  rw [exec_snooped (c := .consumerIndexWrite reg v) rfl goes (host_owned _ (.inl (by cases reg <;> decide))),
    snoop_consumer]

/-- The capacities of a set geometry, at a byte just landed. -/
theorem geo_landed {s : State} {g : Geometry} (h : s.cbm.geometry = some g) (o : Nat) (v : Byte) (field : Geometry → Byte) :
    (landed o v s).geo field = (field g).toNat := geo_of_geometry (s := landed o v s) h field

theorem txCapacity_landed {s : State} {g : Geometry} (h : s.cbm.geometry = some g) (o : Nat) (v : Byte) :
    producerCapacity .txProd (landed o v s) = g.txCap.toNat := geo_landed h o v Geometry.txCap

theorem pqCapacity_landed {s : State} {g : Geometry} (h : s.cbm.geometry = some g) (o : Nat) (v : Byte) :
    producerCapacity .pqProd (landed o v s) = g.pqCap.toNat := geo_landed h o v Geometry.pqCap

theorem ringsSet_landed {s : State} {g : Geometry} (h : s.cbm.geometry = some g) (o : Nat) (v : Byte) :
    (landed o v s).ringsSet = true := ringsSet_of_geometry (s := landed o v s) h

end Sys2Proof.Machine

namespace Sys2Proof.Proofs

open Sys2Proof Sys2Proof.Machine Sys2Proof.Claims

/-- Settles O9: each clamp as a minimum and a maximum, each code as its table. -/
theorem settingShadowsAreClamped : Obligations.SettingShadowsAreClamped := by
  intro t raw b xoff enter warn
  have xonOf : ∀ f raw', f ≤ 64 → xonFreeOf f raw' = max (f + 2) (min 128 raw'.toNat) :=
    fun f _ h => clamp_eq_max_min (by omega) _
  have exitOf : ∀ f raw', f ≤ 224 → quietExitOf f raw' = max (f + 16) (min 240 raw'.toNat) :=
    fun f _ h => clamp_eq_max_min (by omega) _
  have stopOf : ∀ f raw', f ≤ 70 → stopTempOf f raw' = max (f + 5) (min 85 raw'.toNat) :=
    fun f _ h => clamp_eq_max_min (by omega) _
  refine ⟨?_, ?_, ?_, rfl, rfl, ?_, ?_, ?_, ?_, ?_, ?_, ?_, ?_, ?_, ?_, ?_, ?_, ?_, ?_⟩ <;> dsimp only [Settings.set]
  · rw [lineRateOf_eq]
  · rw [lineFormatOf_eq]
  · rw [stepGateOf_eq]
  · rw [clamp_eq_max_min (by decide), xonOf _ _ (by omega)]
  · rw [xonOf _ _ xoff]
  · rw [clamp_zero]
  · rw [clamp_eq_max_min (by decide)]
  · rw [clamp_eq_max_min (by decide)]
  · rw [clamp_zero, exitOf _ _ (by omega)]
  · rw [exitOf _ _ enter]
  · rw [clamp_zero]
  · rw [clamp_zero]
  · rw [clamp_eq_max_min (by decide)]
  · rw [clamp_eq_max_min (by decide), stopOf _ _ (by omega)]
  · rw [stopOf _ _ warn]
  · rw [clamp_eq_max_min (by decide)]
  · rw [clamp_eq_max_min (by decide)]

theorem offsetsOfHostBytes : OffsetsOfHostBytes := by
  unfold OffsetsOfHostBytes
  refine ⟨by decide, by decide, fun _ => rfl, by decide, by decide⟩

theorem argumentAndGeometryShadows : ArgumentAndGeometryShadows := by
  refine ⟨fun i v s goes slot => ?_, fun a v => ⟨rfl, rfl, rfl, rfl, rfl, rfl⟩, fun reg v s goes => ?_,
    fun g v => ⟨rfl, rfl, rfl, rfl, rfl, rfl, rfl, rfl, rfl⟩⟩
  · rw [exec_snooped (c := .argWrite i v) rfl goes (slot_free slot (.inr (by omega))), snoop_arg]
    rfl
  · rw [exec_snooped (c := .geometryWrite reg v) rfl goes (host_owned _ (.inr (by cases reg <;> decide))), snoop_geometry]
    rfl

theorem settingWriteFormsTheShadow : SettingWriteFormsTheShadow := by
  refine ⟨fun raw v => ⟨rfl, rfl, rfl, fun reg h1 h2 h3 => rawSettings_set_other h1 h2 h3 raw v⟩, fun _ => rfl,
    fun reg v s goes ahead => ?_, fun v s start goes timer nonzero ran => ?_⟩
  · rw [exec_settingWrite goes, takeSetting_quiet]
    · rfl
    · rintro ⟨rfl, out⟩
      obtain ⟨start, timer, nonzero, ran⟩ := holdRunOut_settingFormed.mp out
      rcases ahead rfl start timer with rfl | before
      · exact nonzero rfl
      · exact absurd ran (by simpa using before)
  · rw [exec_settingWrite goes, takeSetting_expires (s := landed (SettingReg.offset .holdLimit) v s)
      (holdRunOut_settingFormed.mpr ⟨start, timer, nonzero, ran⟩)]
    unfold settingFormed Settings.set
    dsimp only
    rw [clamp_zero]
    rfl

/-- Settles O10: the offset of each byte of the setup, then what CBM does with it. -/
theorem setupWritesFormTheShadows : Obligations.SetupWritesFormTheShadows :=
  ⟨offsetsOfHostBytes, argumentAndGeometryShadows, settingWriteFormsTheShadow⟩

theorem producerIndexIsJudged : ProducerIndexIsJudged := by
  intro v s goes
  refine ⟨fun unset => ⟨?_, ?_⟩, fun g set above => ?_, fun g set above => ?_, fun g set below waits => ?_,
    fun g set below awake ahead => ?_, fun g set below standby => ?_, fun g set below awake => ?_⟩ <;>
    rw [exec_producerIndexWrite goes]
  · rw [takeProducer_unset _ _ (by simpa using unset)]; rfl
  · rw [takeProducer_unset _ _ (by simpa using unset)]; rfl
  · rw [takeProducer_above (ringsSet_landed set _ _) (by rwa [txCapacity_landed set])]; rfl
  · rw [takeProducer_above (ringsSet_landed set _ _) (by rwa [pqCapacity_landed set])]; rfl
  · have below' : v.toNat < producerCapacity .txProd (landed (ProducerIndex.offset .txProd) v s) := by
      rwa [txCapacity_landed set]
    cases standby : s.cbm.standby with
    | true => rw [takeProducer_standby (ringsSet_landed set _ _) below' standby]; rfl
    | false =>
      have same : v.toNat = s.lu.txCons := waits.resolve_left (by simp [standby])
      rw [takeProducer_acts (ringsSet_landed set _ _) below' standby,
        actOnTxProd_same (s := setProducer .txProd v.toNat (landed (ProducerIndex.offset .txProd) v s)) same]
      rfl
  · rw [takeProducer_acts (ringsSet_landed set _ _) (by rwa [txCapacity_landed set]) awake,
      actOnTxProd_ahead (s := setProducer .txProd v.toNat (landed (ProducerIndex.offset .txProd) v s)) ahead]
    rfl
  · rw [takeProducer_standby (ringsSet_landed set _ _) (by rwa [pqCapacity_landed set]) standby]; rfl
  · rw [takeProducer_acts (ringsSet_landed set _ _) (by rwa [pqCapacity_landed set]) awake]
    dsimp only [actOnProducer, actOnPqProd, onFetchedPath]
    rw [geo_of_geometry (s := setProducer .pqProd v.toNat (landed (ProducerIndex.offset .pqProd) v s)) set]
    rfl

theorem consumerIndexIsJudged : ConsumerIndexIsJudged := by
  intro v s goes
  refine ⟨fun unset => ⟨?_, ?_⟩, fun g set off => ?_, fun g set off => ?_, fun g set below on => ?_,
    fun g set below on => ?_⟩ <;> rw [exec_consumerIndexWrite goes]
  · rw [takeConsumer_unset _ _ (by simpa using unset)]; rfl
  · rw [takeConsumer_unset _ _ (by simpa using unset)]; rfl
  · rw [takeConsumer_off (ringsSet_landed set _ _) (onForwardPath_eq_false ?_)]
    · rfl
    · rwa [consumerCapacity, geo_landed set]
  · rw [takeConsumer_off (ringsSet_landed set _ _) (onForwardPath_eq_false ?_)]
    · rfl
    · rwa [consumerCapacity, geo_landed set]
  · rw [takeConsumer_on (ringsSet_landed set _ _) ((onForwardPath_iff _ _ _).mpr ?_)]
    · rfl
    · rw [consumerCapacity, geo_landed set]; exact ⟨below, on⟩
  · rw [takeConsumer_on (ringsSet_landed set _ _) ((onForwardPath_iff _ _ _).mpr ?_)]
    · rfl
    · rw [consumerCapacity, geo_landed set]; exact ⟨below, on⟩

/-- Settles O11: the judgement of each index, then the block that acts on it. -/
theorem indexWritesAreJudged : Obligations.IndexWritesAreJudged := ⟨producerIndexIsJudged, consumerIndexIsJudged⟩

end Sys2Proof.Proofs
end

section
/-! PROOFS. The commands of the line, the hold and the rings (R38, R39, R48, R49, R59, R60, R87, R148 to R150): O12, O13, O14,
O17. -/

namespace Sys2Proof.Machine

open Sys2Proof Sys2Proof.Claims

/-- A taken command has landed its code, with the pending record discarded. -/
theorem discardPending_landed (code : Byte) (s : State) : discardPending (landed 0x00 code s) = taken code s := rfl

/-- A byte taken changes RAM, the counts and the pending record only. -/
@[simp] theorem taken_frame (code : Byte) (s : State) :
    (taken code s).pending = s.pending ∧ (taken code s).env = s.env ∧ (taken code s).mp = (countHost s).mp ∧
    (taken code s).cbm = { s.cbm with pendingCmd := none } ∧ (taken code s).lu = s.lu ∧ (taken code s).su = s.su ∧
    (taken code s).ks = s.ks ∧ (taken code s).ps = s.ps ∧ (taken code s).sp = s.sp ∧ (taken code s).hm = s.hm ∧
    (taken code s).sm = s.sm ∧ (taken code s).pd = s.pd :=
  ⟨rfl, rfl, rfl, rfl, rfl, rfl, rfl, rfl, rfl, rfl, rfl, rfl⟩

/-! ## CONNECT (R48, R49) -/

theorem takeConnect_of_line_on {s : State} (h : s.lu.lineState ≠ .off) : takeConnect s = (.refusedState, s) := if_pos h

theorem takeConnect_of_unset {s : State} (off : s.lu.lineState = .off) (unset : s.cbm.geometry = none) :
    takeConnect s = (.ringsUnset, s) := by
  unfold takeConnect
  rw [if_neg (by simp [off]), if_pos (ringsSet_of_unset unset)]

theorem takeConnect_of_badRole {s : State} (off : s.lu.lineState = .off) (set : s.cbm.geometry.isSome = true)
    (bad : 1 < s.cbm.args.arg0.toNat) : takeConnect s = (.badArg, s) := by
  unfold takeConnect
  rw [if_neg (by simp [off]), if_neg (by simp [State.ringsSet, set]), if_pos bad]

theorem takeConnect_starts {s : State} (off : s.lu.lineState = .off) (set : s.cbm.geometry.isSome = true)
    (good : s.cbm.args.arg0.toNat ≤ 1) :
    takeConnect s = (.ok, startConnection (if s.cbm.args.arg0 = 0 then .originate else .answer) s) := by
  unfold takeConnect
  rw [if_neg (by simp [off]), if_neg (by simp [State.ringsSet, set]), if_neg (by omega)]

/-! ## Hold (R148 to R150) -/

theorem setHold_at_once {s : State} (engine : s.ps.engine = .idle ∨ s.ps.engine = .waitCache)
    (awake : s.cbm.standby = false) :
    setHold s = cancelEffect (s.withPs { s.ps with holdRequest := true, heldPoint := .betweenRows, engine := .held }) :=
  if_pos ⟨engine, awake⟩

theorem setHold_pends {s : State} (h : (s.ps.engine ≠ .idle ∧ s.ps.engine ≠ .waitCache) ∨ s.cbm.standby = true) :
    setHold s = s.withPs { s.ps with holdRequest := true } := by
  refine if_neg ?_
  rintro ⟨engine, awake⟩
  rcases h with ⟨other, another⟩ | standby
  · exact engine.elim other another
  · simp [standby] at awake

theorem clearHold_of_running {s : State} (h : s.ps.engine ≠ .held) :
    clearHold s = s.withPs { s.ps with holdRequest := false } := if_neg h

theorem clearHold_between_rows {s : State} (held : s.ps.engine = .held) (point : s.ps.heldPoint = .betweenRows) :
    clearHold s = nextRow (s.withPs { s.ps with holdRequest := false }) := by
  unfold clearHold
  dsimp only
  rw [if_pos held, point]

theorem clearHold_in_row {s : State} (held : s.ps.engine = .held) (point : s.ps.heldPoint = .inRow) :
    clearHold s = resumeRow (takeReading (s.withPs { s.ps with holdRequest := false })) := by
  unfold clearHold
  dsimp only
  rw [if_pos held, point]

theorem printHoldEffect_of_set {s : State} (h : s.ps.holdRequest = true) : printHoldEffect s = s := if_pos h

theorem printHoldEffect_of_clear {s : State} (h : s.ps.holdRequest = false) : printHoldEffect s = setHold s :=
  if_neg (by simp [h])

theorem printResumeEffect_of_clear {s : State} (h : s.ps.holdRequest = false) : printResumeEffect s = s :=
  if_neg (by simp [h])

theorem printResumeEffect_of_set {s : State} (h : s.ps.holdRequest = true) : printResumeEffect s = clearHold s := if_pos h

/-! ## RINGS_RESET (R38, R39) -/

/-- The engine, the cache and the line are at rest, as RINGS_RESET asks. -/
def AtRest (s : State) : Prop := s.lu.lineState = .off ∧ s.ps.engine = .idle ∧ s.ps.cache = .empty

theorem basesOk_iff (g : Geometry) : g.basesOk = true ↔
    ∀ b ∈ [g.txBase, g.rxBase, g.keyBase, g.pqBase, g.keymapBase], b.toNat ≤ 127 := by
  unfold Geometry.basesOk
  rw [List.all_eq_true]
  simp only [decide_eq_true_iff]

theorem inRange_iff (lo hi n : Nat) : inRange lo hi n = true ↔ lo ≤ n ∧ n ≤ hi := by
  unfold inRange
  rw [Bool.and_eq_true, decide_eq_true_iff, decide_eq_true_iff]

theorem capsOk_iff (g : Geometry) : g.capsOk = true ↔
    (16 ≤ g.txCap.toNat ∧ g.txCap.toNat ≤ 255) ∧ (16 ≤ g.rxCap.toNat ∧ g.rxCap.toNat ≤ 255) ∧
      (8 ≤ g.keyCap.toNat ∧ g.keyCap.toNat ≤ 63) ∧ (4 ≤ g.pqCap.toNat ∧ g.pqCap.toNat ≤ 31) := by
  unfold Geometry.capsOk
  simp only [Bool.and_eq_true, inRange_iff, and_assoc]

theorem not_atRest_iff (s : State) :
    ¬AtRest s ↔ s.lu.lineState ≠ .off ∨ s.ps.engine ≠ .idle ∨ s.ps.cache ≠ .empty := by
  unfold AtRest
  simp only [not_and_or, ne_eq]

theorem ringsResetCheck_of_busy {s : State} (h : ¬AtRest s) : ringsResetCheck s = some .refusedState :=
  if_pos ((not_atRest_iff s).mp h)

theorem ringsResetCheck_of_badBase {s : State} (rest : AtRest s) (bad : s.cbm.geometryRaw.basesOk = false) :
    ringsResetCheck s = some .badArg := by
  unfold ringsResetCheck
  dsimp only
  rw [if_neg (fun h => (not_atRest_iff s).mpr h rest), if_pos bad]

theorem ringsResetCheck_of_badCap {s : State} (rest : AtRest s) (bases : s.cbm.geometryRaw.basesOk = true)
    (bad : s.cbm.geometryRaw.capsOk = false) : ringsResetCheck s = some .badArg := by
  unfold ringsResetCheck
  dsimp only
  rw [if_neg (fun h => (not_atRest_iff s).mpr h rest), if_neg (by simp [bases]), if_pos bad]

/-- With good bases and capacities the placement decides. -/
theorem ringsResetCheck_of_good {s : State} (rest : AtRest s) (bases : s.cbm.geometryRaw.basesOk = true)
    (caps : s.cbm.geometryRaw.capsOk = true) :
    ringsResetCheck s = if placeable s.cbm.geometryRaw s = false then some .overlap else none := by
  unfold ringsResetCheck
  dsimp only
  rw [if_neg (fun h => (not_atRest_iff s).mpr h rest), if_neg (by simp [bases]), if_neg (by simp [caps])]

theorem takeRingsReset_of_refused {s : State} {r : Result} (h : ringsResetCheck s = some r) :
    takeRingsReset s = (r, s) := by
  unfold takeRingsReset; rw [h]

theorem takeRingsReset_of_passed {s : State} (h : ringsResetCheck s = none) :
    takeRingsReset s = (.ok, ringsResetEffect s) := by
  unfold takeRingsReset; rw [h]

/-- A RINGS_RESET refused owes RESULT and the CMD clear, like every other answer. -/
theorem exec_ringsReset_refused {s : State} {r : Result} (goes : HostGoes s) (slot : s.cbm.slotBusy = false)
    (awake : s.cbm.standby = false) (refused : ringsResetCheck (taken 0x20 s) = some r) (other : r ≠ .ok) :
    exec .ringsReset s = .next (settle s (answered r.code (taken 0x20 s))) :=
  exec_runs (c := .ringsReset) rfl rfl goes slot (.inl awake) (takeRingsReset_of_refused refused) (.inr other)

/-! ## Breaks and the end of the connection (R59, R60, R87) -/

theorem disconnectEffect_of_off {s : State} (h : s.lu.lineState = .off) : disconnectEffect s = s := if_pos h

theorem disconnectEffect_before_online {s : State} (on : s.lu.lineState ≠ .off) (early : s.lu.onlineReached = false) :
    disconnectEffect s = enterOff s := by
  unfold disconnectEffect
  rw [if_neg on, if_neg (by simp [early])]

theorem disconnectEffect_after_online {s : State} (on : s.lu.lineState ≠ .off) (reached : s.lu.onlineReached = true) :
    disconnectEffect s = arrive (.mark .carrierDown 1) (setFlag .carrierDown (enterOff s)) := by
  unfold disconnectEffect
  rw [if_neg on, if_pos reached]

theorem takeSendBreak_refused {s : State} (h : s.lu.lineState ≠ .online) : takeSendBreak s = (.refusedState, s) := if_neg h

theorem takeSendBreak_online {s : State} (h : s.lu.lineState = .online) : takeSendBreak s = (.ok, requestBreak s) :=
  if_pos h

end Sys2Proof.Machine

namespace Sys2Proof.Proofs

open Sys2Proof Sys2Proof.Machine Sys2Proof.Claims

/-- Settles O12: the three checks in their order, then the connection. -/
theorem connectChecksAndStarts : Obligations.ConnectChecksAndStarts := by
  refine ⟨fun s goes slot standby => ?_, fun s goes slot awake => ⟨fun on => ?_, fun off unset => ?_,
    fun off set bad => ?_, fun off set good => ?_⟩⟩
  · exact standbyAndUnknownAnswers.1 .connect 0x01 s rfl (by decide) (by decide) goes slot standby
  · exact exec_runs (c := .connect) (r := .refusedState) rfl rfl goes slot (.inl awake) (takeConnect_of_line_on (s := taken 0x01 s) on)
      (.inl nofun)
  · exact exec_runs (c := .connect) (r := .ringsUnset) rfl rfl goes slot (.inl awake) (takeConnect_of_unset (s := taken 0x01 s) off unset)
      (.inl nofun)
  · exact exec_runs (c := .connect) (r := .badArg) rfl rfl goes slot (.inl awake)
      (takeConnect_of_badRole (s := taken 0x01 s) off set bad) (.inl nofun)
  · rw [exec_runs (c := .connect) (r := .ok) rfl rfl goes slot (.inl awake)
      (takeConnect_starts (s := taken 0x01 s) off set good) (.inl nofun)]
    show _ = Host.Outcome.next (settle s (answered 0x01 ((taken 0x01 s).withLu _)))
    by_cases h : s.cbm.args.arg0 = 0
    · rw [if_pos (show (taken 0x01 s).cbm.args.arg0 = 0 from h), if_pos h, if_pos h]; rfl
    · rw [if_neg (show ¬(taken 0x01 s).cbm.args.arg0 = 0 from h), if_neg h, if_neg h]; rfl

/-- Settles O13: the set and the clear of the request, then the two commands over them. -/
theorem holdIsSetAndCleared : Obligations.HoldIsSetAndCleared := by
  refine ⟨fun s => ⟨setHold_at_once, setHold_pends, clearHold_of_running, clearHold_between_rows, clearHold_in_row⟩,
    fun s goes slot awake => ?_⟩
  have hold := fun u (effect : printHoldEffect (taken 0x10 s) = u) =>
    exec_runs (c := .printHold) (u := u) rfl rfl goes slot (.inl awake) (congrArg (Prod.mk Result.ok) effect) (.inl nofun)
  have resume := fun u (effect : printResumeEffect (taken 0x11 s) = u) =>
    exec_runs (c := .printResume) (u := u) rfl rfl goes slot (.inl awake) (congrArg (Prod.mk Result.ok) effect) (.inl nofun)
  have holds : s.ps.holdRequest = false → printHoldEffect (taken 0x10 s) = setHold (taken 0x10 s) :=
    printHoldEffect_of_clear (s := taken 0x10 s)
  have resumes : s.ps.holdRequest = true → printResumeEffect (taken 0x11 s) = clearHold (taken 0x11 s) :=
    printResumeEffect_of_set (s := taken 0x11 s)
  refine ⟨fun set => ?_, fun clear h1 h2 => ?_, fun clear engine => ?_, fun clear => ?_, fun set running => ?_,
    fun set held point => ?_, fun set held point => ?_⟩
  · exact hold _ (printHoldEffect_of_set (s := taken 0x10 s) set)
  · exact hold _ ((holds clear).trans (setHold_pends (s := taken 0x10 s) (.inl ⟨h1, h2⟩)))
  · exact hold _ ((holds clear).trans (setHold_at_once (s := taken 0x10 s) engine awake))
  · exact resume _ (printResumeEffect_of_clear (s := taken 0x11 s) clear)
  · exact resume _ ((resumes set).trans (clearHold_of_running (s := taken 0x11 s) running))
  · exact resume _ ((resumes set).trans (clearHold_between_rows (s := taken 0x11 s) held point))
  · exact resume _ ((resumes set).trans (clearHold_in_row (s := taken 0x11 s) held point))

/-- Settles O14: the checks in their order, then what the geometry in force and the emptied rings are. -/
theorem ringsResetChecksAndApplies : Obligations.RingsResetChecksAndApplies := by
  intro s goes slot awake
  have refused := fun r => exec_ringsReset_refused (r := r) goes slot awake
  refine ⟨fun busy => ?_, fun rest bad => ?_, fun rest bases bad => ?_, fun rest bases caps off => ?_,
    fun rest bases caps placed => ?_⟩
  · exact refused .refusedState (ringsResetCheck_of_busy (s := taken 0x20 s) busy) nofun
  · rw [← basesOk_iff, Bool.not_eq_true] at bad
    exact refused .badArg (ringsResetCheck_of_badBase (s := taken 0x20 s) rest bad) nofun
  · rw [← basesOk_iff] at bases
    rw [← capsOk_iff, Bool.not_eq_true] at bad
    exact refused .badArg (ringsResetCheck_of_badCap (s := taken 0x20 s) rest bases bad) nofun
  · rw [← basesOk_iff] at bases
    rw [← capsOk_iff] at caps
    exact refused .overlap ((ringsResetCheck_of_good (s := taken 0x20 s) rest bases caps).trans (if_pos off)) nofun
  · rw [← basesOk_iff] at bases
    rw [← capsOk_iff] at caps
    have passed : ringsResetCheck (taken 0x20 s) = none :=
      (ringsResetCheck_of_good (s := taken 0x20 s) rest bases caps).trans
        (if_neg (by rw [Bool.not_eq_false]; exact placed))
    have answer : decideAnswer 0x20 (landed 0x00 0x20 s) = (.ok, ringsResetEffect (taken 0x20 s)) :=
      (decideAnswer_runs (k := .ringsReset) (s := landed 0x00 0x20 s) rfl (.inl awake)).trans
        (takeRingsReset_of_passed passed)
    rw [exec_command (c := .ringsReset) rfl (by decide) goes slot, takeCommand_of_answer answer, List.append_assoc]
    rfl

theorem entryToOff : EntryToOff := by
  intro s
  unfold enterOff
  rcases h : s.lu.txOp with _ | (_ | _ | _) <;> rfl

theorem disconnectEndsTheConnection : DisconnectEndsTheConnection := by
  intro s goes slot awake
  have ends := fun u (effect : disconnectEffect (taken 0x02 s) = u) =>
    exec_runs (c := .disconnect) (u := u) rfl rfl goes slot (.inl awake) (congrArg (Prod.mk Result.ok) effect) (.inl nofun)
  refine ⟨fun off => ?_, fun on early => ?_, fun on reached => ?_⟩
  · exact ends _ (disconnectEffect_of_off (s := taken 0x02 s) off)
  · exact ends _ (disconnectEffect_before_online (s := taken 0x02 s) on early)
  · exact ends _ (disconnectEffect_after_online (s := taken 0x02 s) on reached)

theorem sendBreakRequestsOrMerges : SendBreakRequestsOrMerges := by
  intro s goes slot awake
  have online := fun (h : s.lu.lineState = .online) u (effect : requestBreak (taken 0x03 s) = u) =>
    exec_runs (c := .sendBreak) (u := u) rfl rfl goes slot (.inl awake)
      ((takeSendBreak_online (s := taken 0x03 s) h).trans (congrArg (Prod.mk Result.ok) effect)) (.inl nofun)
  refine ⟨fun off => ?_, fun on merges => ?_, fun on fresh none_sent => ?_⟩
  · exact exec_runs (c := .sendBreak) (r := .refusedState) rfl rfl goes slot (.inl awake) (takeSendBreak_refused (s := taken 0x03 s) off)
      (.inl nofun)
  · exact online on _ (requestBreak_merges (s := taken 0x03 s) merges)
  · exact online on _ (requestBreak_pends (s := taken 0x03 s) fresh fun ⟨t, sent⟩ => none_sent t sent)

/-- Settles O17: the entry to OFF, then DISCONNECT and SEND_BREAK by the line's state. -/
theorem connectionEndsAndBreaks : Obligations.ConnectionEndsAndBreaks :=
  ⟨entryToOff, disconnectEndsTheConnection, sendBreakRequestsOrMerges⟩

end Sys2Proof.Proofs
end

section
/-! PROOFS. Areas, pages and the confirmable commands (R14 to R18, R26, R27, R38, R42): O15, O19, O20, O21. -/

namespace Sys2Proof.Machine

open Sys2Proof Sys2Proof.Claims

/-! ## Areas (R38) -/

/-- Two areas overlap exactly when they share a byte. -/
theorem overlaps_iff (a b : Area) : a.overlaps b = true ↔
    ∃ x, (a.start ≤ x ∧ x < a.start + a.length) ∧ b.start ≤ x ∧ x < b.start + b.length := by
  unfold Area.overlaps
  simp only [Bool.and_eq_true, decide_eq_true_iff]
  refine ⟨fun h => ⟨max a.start b.start, by omega⟩, fun ⟨x, h⟩ => by omega⟩

/-- An area holds a byte of a page exactly when one of its bytes lies there. -/
theorem onPage_iff (a : Area) (p : Nat) : a.onPage p = true ↔
    ∃ x, (a.start ≤ x ∧ x < a.start + a.length) ∧ x / 256 = p := by
  unfold Area.onPage
  rw [overlaps_iff]
  refine exists_congr fun x => and_congr_right fun _ => ?_
  dsimp only
  omega

theorem anyOverlap_eq_false_iff (l : List Area) :
    anyOverlap l = false ↔ l.Pairwise (fun a b => ¬a.overlaps b = true) := by
  induction l with
  | nil => simp [anyOverlap]
  | cons a rest ih => simp [anyOverlap, ih]

/-- An area from its first byte and its length. -/
def areaOf (p : Nat × Nat) : Area := ⟨p.1, p.2⟩

/-- The rings of a geometry, as first bytes and lengths. -/
def ringSpans (g : Geometry) : List (Nat × Nat) :=
  [(g.txBase.toNat * 256, g.txCap.toNat), (g.rxBase.toNat * 256, g.rxCap.toNat * 2),
    (g.keyBase.toNat * 256, g.keyCap.toNat * 4), (g.pqBase.toNat * 256, g.pqCap.toNat * 8)]

/-- The rings and the keymap. -/
def areaSpans (g : Geometry) : List (Nat × Nat) := ringSpans g ++ [(g.keymapBase.toNat * 256, 320)]

theorem rings_eq (g : Geometry) : g.rings = (ringSpans g).map areaOf := rfl

theorem areas_eq (g : Geometry) : g.rings ++ [g.keymap] = (areaSpans g).map areaOf := rfl

/-- A span holds a byte. -/
def Holds (a : Nat × Nat) (x : Nat) : Prop := a.1 ≤ x ∧ x < a.1 + a.2

theorem ringSpans_sub {g : Geometry} {a : Nat × Nat} (h : a ∈ ringSpans g) : a ∈ areaSpans g :=
  List.mem_append_left _ h

/-- No page of the window set holds a byte of a ring, for rings inside RAM. -/
theorem unguarded_iff {g : Geometry} {s : State} (inside : ∀ a ∈ areaSpans g, a.1 + a.2 ≤ 0x8000) :
    pages.any (fun p => s.mp.windowSet p && g.rings.any (fun r => r.onPage p)) = false ↔
      ∀ a ∈ ringSpans g, ∀ x, Holds a x → s.mp.windowSet (x / 256) = false := by
  rw [List.any_eq_false]
  constructor
  · intro apart a mem x hx
    have small : x / 256 < 128 := by
      have := inside a (ringSpans_sub mem)
      unfold Holds at hx
      omega
    have onPage : g.rings.any (fun r => r.onPage (x / 256)) = true :=
      List.any_eq_true.mpr ⟨areaOf a, List.mem_map_of_mem mem, (onPage_iff _ _).mpr ⟨x, hx, rfl⟩⟩
    simpa [onPage] using apart (x / 256) (mem_pages.mpr small)
  · intro apart p _ guarded
    obtain ⟨inSet, onPage⟩ := Bool.and_eq_true_iff.mp guarded
    obtain ⟨r, mem, on⟩ := List.any_eq_true.mp onPage
    obtain ⟨a, memA, rfl⟩ := List.mem_map.mp (rings_eq g ▸ mem)
    obtain ⟨x, hx, rfl⟩ := (onPage_iff _ _).mp on
    rw [apart a memA x hx] at inSet
    cases inSet

theorem placeable_iff (g : Geometry) (s : State) : placeable g s = true ↔
    (∀ a ∈ areaSpans g, a.1 + a.2 ≤ 0x8000) ∧
      (areaSpans g).Pairwise (fun a b => ¬∃ x, Holds a x ∧ Holds b x) ∧
      (∀ a ∈ areaSpans g, ¬∃ x, Holds a x ∧ s.base ≤ x ∧ x ≤ s.base + 0x7F) ∧
      (∀ a ∈ ringSpans g, ∀ x, Holds a x → s.mp.windowSet (x / 256) = false) := by
  unfold placeable
  dsimp only
  have inside : ((g.rings ++ [g.keymap]).all fun a => decide (a.start + a.length ≤ 0x8000)) = true ↔
      ∀ a ∈ areaSpans g, a.1 + a.2 ≤ 0x8000 := by
    rw [areas_eq, List.all_map, List.all_eq_true]
    exact forall₂_congr fun _ _ => decide_eq_true_iff
  have apart : anyOverlap (g.rings ++ [g.keymap]) = false ↔
      (areaSpans g).Pairwise (fun a b => ¬∃ x, Holds a x ∧ Holds b x) := by
    rw [areas_eq, anyOverlap_eq_false_iff, List.pairwise_map]
    simp only [overlaps_iff, Holds, areaOf]
  have offBlock : ((g.rings ++ [g.keymap]).any fun a => a.overlaps ⟨s.base, 0x80⟩) = false ↔
      ∀ a ∈ areaSpans g, ¬∃ x, Holds a x ∧ s.base ≤ x ∧ x ≤ s.base + 0x7F := by
    have last : ∀ x, x < s.base + 0x80 ↔ x ≤ s.base + 0x7F := fun x => by omega
    rw [areas_eq, List.any_map, List.any_eq_false]
    simp only [Function.comp_apply, overlaps_iff, Holds, areaOf, last]
  simp only [Bool.and_eq_true, Bool.not_eq_true', inside, apart, offBlock, and_assoc]
  exact and_congr_right fun all => and_congr_right fun _ => and_congr_right fun _ => unguarded_iff all

/-! ## Page sets (R14, R15) -/

theorem guards_iff (w : Window) (p : Nat) : w.guards p = true ↔ w.enabled = true ∧
    ((w.invert = false ∧ w.lower ≤ p ∧ p ≤ w.upper) ∨ (w.invert = true ∧ ¬(w.lower ≤ p ∧ p ≤ w.upper))) := by
  unfold Window.guards
  cases w.invert with
  | false => simp
  | true => simp [imp_iff_not_or]

theorem windowSet_iff (m : MemoryPath) (p : Nat) : m.windowSet p = true ↔ ∃ w ∈ m.windows, w.guards p = true :=
  List.any_eq_true

theorem partPage_iff (s : State) (p : Nat) : partPage s p = true ↔
    p = s.base / 256 ∨ ∃ g, s.cbm.geometry = some g ∧ ∃ a ∈ ringSpans g, ∃ x, Holds a x ∧ x / 256 = p := by
  cases h : s.cbm.geometry with
  | none =>
    rw [partPage_of_unset h, beq_iff_eq]
    simp [State.blockPage, pageOf]
  | some g =>
    rw [partPage_of_set h, Bool.or_eq_true, beq_iff_eq, rings_eq, List.any_map, List.any_eq_true]
    simp [State.blockPage, pageOf, onPage_iff, areaOf, Holds]

/-! ## The checks of the confirmable commands (R15, R16, R18) -/

theorem guardSetCheck_locked {a : Args} {s : State} (tight : s.mp.tight = true) :
    guardSetCheck a s = some .locked := if_pos tight

theorem guardSetCheck_badArg {a : Args} {s : State} (loose : s.mp.tight = false)
    (bad : 3 < a.arg0.toNat ∨ 127 < a.arg1.toNat ∨ 127 < a.arg2.toNat ∨ a.arg2.toNat < a.arg1.toNat) :
    guardSetCheck a s = some .badArg := by
  unfold guardSetCheck
  rw [if_neg (by simp [loose])]
  split; · rfl
  split; · rfl
  split; · rfl
  omega

/-- With good arguments the pages decide. -/
theorem guardSetCheck_good {a : Args} {s : State} (loose : s.mp.tight = false) (number : a.arg0.toNat ≤ 3)
    (order : a.arg1.toNat ≤ a.arg2.toNat) (last : a.arg2.toNat ≤ 127) :
    guardSetCheck a s = if pages.any (fun p => (windowOf a).guards p && partPage s p) then some .overlap else none := by
  unfold guardSetCheck
  rw [if_neg (by simp [loose]), if_neg (by omega), if_neg (by omega), if_neg (by omega)]

theorem covers_iff (w : Window) (s : State) : pages.any (fun p => w.guards p && partPage s p) = true ↔
    ∃ p, p < 128 ∧ w.guards p = true ∧ partPage s p = true := by
  simp only [List.any_eq_true, mem_pages, Bool.and_eq_true]

theorem guardOpenCheck_locked {a : Args} {s : State} (tight : s.mp.tight = true) :
    guardOpenCheck a s = some .locked := if_pos tight

theorem guardOpenCheck_loose {a : Args} {s : State} (loose : s.mp.tight = false) :
    guardOpenCheck a s = if 127 < a.arg0.toNat then some .badArg else none := if_neg (by simp [loose])

/-- A landed code and a discarded record enter no check. -/
theorem confirmableCheck_taken (p : PendingCommand) (code : Byte) (s : State) :
    confirmableCheck p (taken code s) = confirmableCheck p s := by
  unfold confirmableCheck
  cases p.code <;> rfl

theorem takeConfirmable_of_refused {k : Confirmable} {s : State} {r : Result}
    (h : confirmableCheck ⟨k, s.cbm.args⟩ s = some r) : takeConfirmable k s = (r, s) := by
  unfold takeConfirmable; dsimp only; rw [h]

theorem takeConfirmable_of_passed {k : Confirmable} {s : State} (h : confirmableCheck ⟨k, s.cbm.args⟩ s = none) :
    takeConfirmable k s = (.awaitConfirm, s.withCbm { s.cbm with pendingCmd := some ⟨k, s.cbm.args⟩ }) := by
  unfold takeConfirmable; dsimp only; rw [h]

/-! ## CONFIRM (R27) -/

theorem takeConfirm_of_none {s : State} (h : s.cbm.pendingCmd = none) : takeConfirm s = (.nothingToConfirm, s) := by
  unfold takeConfirm; rw [h]

theorem takeConfirm_of_refused {s : State} {p : PendingCommand} {r : Result} (h : s.cbm.pendingCmd = some p)
    (check : confirmableCheck p (discardPending s) = some r) : takeConfirm s = (r, discardPending s) := by
  unfold takeConfirm; rw [h]; dsimp only; rw [check]

theorem takeConfirm_of_passed {s : State} {p : PendingCommand} (h : s.cbm.pendingCmd = some p)
    (check : confirmableCheck p (discardPending s) = none) :
    takeConfirm s = (.ok, confirmableEffect p (discardPending s)) := by
  unfold takeConfirm; rw [h]; dsimp only; rw [check]

/-- A CONFIRM whose record passes its checks executes it. -/
theorem exec_confirm {s : State} {p : PendingCommand} (goes : HostGoes s) (slot : s.cbm.slotBusy = false)
    (awake : s.cbm.standby = false) (record : s.cbm.pendingCmd = some p) (check : confirmableCheck p s = none) :
    exec .confirm s = .next (settle s (answered 0x01 (confirmableEffect p (taken 0x3F s)))) :=
  exec_runs (c := .confirm) (r := .ok) rfl rfl goes slot (.inl awake)
    (takeConfirm_of_passed (s := landed 0x00 0x3F s) record ((confirmableCheck_taken p 0x3F s).trans check)) (.inl nofun)

/-- The guard commands' effects over a taken CONFIRM, block by block. -/
theorem confirmableEffect_guardSet (a : Args) (s : State) : confirmableEffect ⟨.guardSet, a⟩ (taken 0x3F s) =
    (((taken 0x3F s).withMp { (countHost s).mp with
      windows := s.mp.windows.set a.arg0.toNat
        ⟨a.arg3.getLsbD 0, a.arg1.toNat, a.arg2.toNat, a.arg3.getLsbD 1⟩ }).withCbm
      { s.cbm with
        pendingCmd := none
        dirty := statusOffsets.filter (fun o =>
          s.cbm.dirty.contains o || ((o - 0x30) / 3 == a.arg0.toNat && decide (0x30 ≤ o))) }) := rfl

theorem confirmableEffect_guardOpen (a : Args) (s : State) : confirmableEffect ⟨.guardOpen, a⟩ (taken 0x3F s) =
    (((taken 0x3F s).withMp { (countHost s).mp with openPage := some a.arg0.toNat }).withCbm
      { s.cbm with
        pendingCmd := none
        dirty := statusOffsets.filter (fun o => s.cbm.dirty.contains o || o == 0x2A) }) := rfl

theorem confirmableEffect_guardTight (a : Args) (s : State) : confirmableEffect ⟨.guardTight, a⟩ (taken 0x3F s) =
    (taken 0x3F s).withMp { (countHost s).mp with tight := true } := rfl

/-- Every position of KS after a reset. -/
theorem keyReset_afterReset (now : Nat) : KeyReset now (KeyScanner.afterReset now) := by
  refine ⟨rfl, rfl, List.length_replicate, fun r mem => ?_, rfl, rfl, rfl, rfl, rfl, rfl, rfl, rfl, rfl⟩
  rw [List.eq_of_mem_replicate mem]
  exact ⟨rfl, rfl, rfl⟩

/-- CBM presents its answer as soon as it owes one. -/
theorem reported_access_of_owed {dirty : List Nat} {r : State} (free : r.cbm.access = none) (owed : r.cbm.answers ≠ []) :
    (reported dirty r).cbm.access = some .answer := by
  show (match r.cbm.access, r.cbm.answers, dirty with
    | some a, _, _ => some a
    | none, _ :: _, _ => some CbmAccess.answer
    | none, [], o :: _ => some (.status o)
    | none, [], [] => none) = some .answer
  rw [free]
  cases h : r.cbm.answers with
  | nil => exact absurd h owed
  | cons => rfl

/-- What is presented next and the dirty set itself stand behind no status offset. -/
theorem statusValue_reported (dirty : List Nat) (r : State) (o : Nat) :
    statusValue (reported dirty r) o = statusValue r o := by
  unfold statusValue; rfl

end Sys2Proof.Machine

namespace Sys2Proof.Proofs

open Sys2Proof Sys2Proof.Machine Sys2Proof.Claims

theorem placementOfAreas : PlacementOfAreas := placeable_iff

theorem guardedPageSets : GuardedPageSets := by
  refine ⟨fun m p => ?_, fun m p => ?_, fun s p => ?_⟩
  · simp only [windowSet_iff, guards_iff]
  · unfold MemoryPath.guardedSet
    rw [Bool.and_eq_true, bne_iff_ne]
  · rw [partPage_iff]
    simp only [Holds, and_assoc]
    exact Iff.rfl

/-- Settles O19: each check of the placement as a statement about bytes, and the page sets read off. -/
theorem ringsAndGuardsShareNoPage : Obligations.RingsAndGuardsShareNoPage := ⟨placementOfAreas, guardedPageSets⟩

theorem answerCodes : AnswerCodes := ⟨rfl, rfl, rfl, rfl, rfl, rfl, rfl, rfl, rfl, rfl⟩

theorem confirmableChecksInOrder : ConfirmableChecksInOrder := by
  intro a s
  refine ⟨fun tight => ⟨guardSetCheck_locked tight, guardOpenCheck_locked tight, if_pos tight⟩,
    fun loose bad => guardSetCheck_badArg loose bad, fun loose number order last covers => ?_,
    fun loose number order last free => ?_, fun loose bad => ?_, fun loose good => ?_, fun loose => ?_, rfl⟩
  · exact (guardSetCheck_good loose number order last).trans (if_pos ((covers_iff _ s).mpr covers))
  · exact (guardSetCheck_good loose number order last).trans (if_neg fun h => free ((covers_iff _ s).mp h))
  · exact (guardOpenCheck_loose loose).trans (if_pos bad)
  · exact (guardOpenCheck_loose loose).trans (if_neg (Nat.not_lt.mpr good))
  · exact if_neg (by simp [loose])

theorem confirmableCommandsAwaitConfirm : ConfirmableCommandsAwaitConfirm := by
  intro c code k s row goes slot awake
  have rows : codeOf c = some code ∧ commandOf code = some (.confirmable k) := by
    simp only [List.mem_cons, Prod.mk.injEq, List.not_mem_nil, or_false] at row
    rcases row with ⟨rfl, rfl, rfl⟩ | ⟨rfl, rfl, rfl⟩ | ⟨rfl, rfl, rfl⟩ | ⟨rfl, rfl, rfl⟩ <;> exact ⟨rfl, rfl⟩
  have check := confirmableCheck_taken ⟨k, s.cbm.args⟩ code s
  refine ⟨fun r refused => ?_, fun passed => ?_⟩
  · exact exec_runs (r := r) rows.1 rows.2 goes slot (.inl awake)
      (takeConfirmable_of_refused (s := taken code s) (check.trans refused)) (.inl nofun)
  · exact exec_runs (r := .awaitConfirm) rows.1 rows.2 goes slot (.inl awake)
      (takeConfirmable_of_passed (s := taken code s) (check.trans passed)) (.inl nofun)

/-- Settles O20: the answers' codes, the checks in their order, and the record held. -/
theorem confirmableCommandsAreChecked : Obligations.ConfirmableCommandsAreChecked :=
  ⟨answerCodes, confirmableChecksInOrder, confirmableCommandsAwaitConfirm⟩

theorem confirmExecutesTheRecord : ConfirmExecutesTheRecord := by
  intro s goes slot awake
  refine ⟨fun empty => ?_, fun p r record refused => ?_, fun p record passed => exec_confirm goes slot awake record passed,
    fun a record passed => ?_, fun a record passed => ?_, fun a record passed => ?_⟩
  · exact exec_runs (c := .confirm) (r := .nothingToConfirm) rfl rfl goes slot (.inl awake)
      (takeConfirm_of_none (s := landed 0x00 0x3F s) empty) (.inl nofun)
  · exact exec_runs (c := .confirm) (r := r) rfl rfl goes slot (.inl awake)
      (takeConfirm_of_refused (s := landed 0x00 0x3F s) record ((confirmableCheck_taken p 0x3F s).trans refused))
      (.inl nofun)
  · rw [exec_confirm goes slot awake record passed, confirmableEffect_guardSet]
  · rw [exec_confirm goes slot awake record passed, confirmableEffect_guardOpen]
  · rw [exec_confirm goes slot awake record passed, confirmableEffect_guardTight]

theorem guardCloseClosesThePage : GuardCloseClosesThePage := fun _ goes slot awake =>
  exec_runs (c := .guardClose) (r := .ok) rfl rfl goes slot (.inl awake) rfl (.inl nofun)

/-- Settles O21: CONFIRM by its record and its checks, the guard commands' effects read off. -/
theorem guardCommandsExecute : Obligations.GuardCommandsExecute := ⟨confirmExecutesTheRecord, guardCloseClosesThePage⟩

/-- Settles O15: a SOFT_RESET confirmed takes every block's soft-reset values; PD is idle after it, so the end of the event
only reports and presents. -/
theorem softResetValues : Obligations.SoftResetValues := by
  intro s a goes slot awake record
  refine ⟨_, exec_confirm goes slot awake record rfl, ?_⟩
  have idle : reattempt s (answered 0x01 (softResetEffect (taken 0x3F s))) =
      answered 0x01 (softResetEffect (taken 0x3F s)) := reattempt_of_not nofun
  show _ ∧ _
  rw [show confirmableEffect ⟨.softReset, a⟩ (taken 0x3F s) = softResetEffect (taken 0x3F s) from rfl, settle_eq, idle]
  refine ⟨rfl, rfl, rfl, rfl, rfl, rfl, reported_access_of_owed rfl (by simp [answered]), rfl, rfl, rfl, rfl, rfl, rfl, rfl,
    rfl, rfl, rfl, rfl, rfl, rfl, rfl, ⟨rfl, rfl, rfl, rfl, rfl, rfl, rfl, rfl, rfl, rfl, rfl, rfl, rfl, rfl, rfl, rfl, rfl,
      rfl, rfl, rfl, rfl⟩, rfl, rfl, rfl, rfl, ⟨rfl, rfl, rfl, rfl, rfl, rfl⟩, rfl, keyReset_afterReset _,
    ⟨rfl, rfl, rfl, rfl, rfl, rfl, rfl, rfl, rfl, rfl, rfl, rfl, rfl, rfl⟩, ⟨rfl, rfl, rfl, rfl, rfl⟩, rfl, rfl,
    ⟨rfl, rfl, rfl⟩, rfl⟩

end Sys2Proof.Proofs
end

section
/-! PROOFS. Cancel, acknowledgement, standby and wake (R8, R34, R35, R40, R41, R129, R151 to R155, R178): O18, O22, O23. -/

namespace Sys2Proof.Machine

open Sys2Proof Sys2Proof.Claims

/-! ## The cancel (R151 to R153) -/

/-- The limit lies ahead when the path from the consumer to it is as long as the one to the fetch index. -/
theorem limitAhead_eq (s : State) : limitAhead s = (!s.ps.woundBack &&
    decide (ringDiff (s.geo Geometry.pqCap) s.ps.fetchIndex s.ps.consumer ≤
      ringDiff (s.geo Geometry.pqCap) s.cbm.pqProd s.ps.consumer)) := by
  unfold limitAhead onFetchedPath
  dsimp only
  rw [← decide_not, decide_eq_decide.mpr Nat.not_lt]

/-- A cancel recorded with its limit. -/
def cancelRecorded (s : State) : State := s.withPs { s.ps with cancel := some ⟨s.cbm.pqProd, limitAhead s⟩ }

theorem requestCancel_waits {s : State} (h : s.ps.engine.cancelWaitsRowEnd = true) :
    requestCancel s = cancelRecorded s := if_pos h

theorem requestCancel_at_once {s : State} (h : s.ps.engine.cancelWaitsRowEnd = false) :
    requestCancel s = cancelEffect (cancelRecorded s) := if_neg (by simp [h])

theorem cancelWaitsRowEnd_iff (e : Engine) : e.cancelWaitsRowEnd = true ↔ e ∈ [.burn, .stepWait, .step] := by
  cases e <;> decide

/-- The printer emptied, before the engine looks for work again (R153, steps 1 to 5). -/
def emptied (c : CancelRequest) (s : State) : State := cancelWaits (cancelQueue c (cancelBadFlag s))

theorem cancelEffect_of_some {s : State} {c : CancelRequest} (h : s.ps.cancel = some c) :
    cancelEffect s = needEmptied (emptied c s) := by
  unfold cancelEffect; rw [h]; rfl

/-- A BAD cache sets PRINT_DESC_ERROR; nothing else changes there. -/
theorem cancelBadFlag_eq (s : State) : cancelBadFlag s = s.withCbm (cancelBadFlag s).cbm := by
  unfold cancelBadFlag
  cases s.ps.cache <;> rfl

theorem cancelBadFlag_cbm_eq (s : State) : (cancelBadFlag s).cbm =
    match s.ps.cache with | .bad _ => { s.cbm with flagsLo := s.cbm.flagsLo ||| 0x80 } | _ => s.cbm := by
  unfold cancelBadFlag
  cases s.ps.cache <;> rfl

/-- The flag leaves what a fetch looks at. -/
theorem cancelBadFlag_ringsSet (s : State) : (cancelBadFlag s).ringsSet = s.ringsSet := by
  unfold State.ringsSet; simp

theorem cancelBadFlag_geo (s : State) (field : Geometry → Byte) : (cancelBadFlag s).geo field = s.geo field := by
  unfold State.geo; simp

theorem cancelBadFlag_pqProd (s : State) : (cancelBadFlag s).cbm.pqProd = s.cbm.pqProd := by
  unfold cancelBadFlag
  cases s.ps.cache <;> rfl

/-- Where the fetch index stands once the printer is emptied. -/
def emptiedFetchIndex (c : CancelRequest) (s : State) : Nat := if s.ringsSet && c.ahead then c.limit else s.ps.fetchIndex

/-- The emptied printer, block by block. -/
theorem emptied_eq (c : CancelRequest) (s : State) : emptied c s = { s with
    cbm := (cancelBadFlag s).cbm
    ps := { s.ps with
      latch := none
      cache := .empty
      access := discardRead s.ps.access
      completion := s.ps.completion ++ (if s.ringsSet then cancelLatch s.ps.latch ++ cancelCache s.ps.cache ++
        (if c.ahead then cancelUnfetched (s.geo Geometry.pqCap) s.ps.fetchIndex c.limit else []) else [])
      fetchIndex := emptiedFetchIndex c s
      localFeeds := 0
      holdRequest := false
      cancel := none
      rowKind := none
      row := none
      history := historyAfterCancel s.ps.row s.ps.history }
    sp := { s.sp with plan := none }
    hm := { s.hm with pacing := none, halt := .none }
    sm := { s.sm with readingTimer := none } } := by
  rw [emptied, cancelQueue]
  dsimp only
  rw [cancelBadFlag_ringsSet, cancelBadFlag_geo, cancelBadFlag_eq]
  rfl

/-- The conditions of a fetch, one by one (R136). -/
theorem canFetch_iff (s : State) : canFetch s = true ↔ s.ringsSet = true ∧ s.cbm.standby = false ∧ s.ps.cache = .empty ∧
    s.ps.engine ≠ .errorStop ∧ s.ps.cancel = none ∧ s.ps.woundBack = false ∧
      ringDiff (s.geo Geometry.pqCap) s.ps.fetchIndex s.ps.consumer <
        ringDiff (s.geo Geometry.pqCap) s.cbm.pqProd s.ps.consumer := by
  unfold canFetch descriptorWaiting
  simp only [Bool.and_eq_true, Bool.not_eq_true', beq_iff_eq, bne_iff_ne, Option.isNone_iff_eq_none, decide_eq_true_iff,
    and_assoc]

/-- An engine that needs the emptied cache changes its own state, the cache and the fetch index only. -/
theorem needEmptied_of_errorStop {s : State} (h : s.ps.engine = .errorStop) : needEmptied s = s := if_pos h

theorem needEmptied_fetches {s : State} (running : s.ps.engine ≠ .errorStop) (fetch : canFetch (setEngine .idle s) = true) :
    needEmptied s = s.withPs { s.ps with
      engine := .waitCache
      cache := .fetching s.ps.fetchIndex []
      fetchIndex := (s.ps.fetchIndex + 1) % s.geo Geometry.pqCap } := by
  unfold needEmptied
  rw [if_neg running]
  exact if_pos fetch

theorem needEmptied_idles {s : State} (running : s.ps.engine ≠ .errorStop) (idle : canFetch (setEngine .idle s) = false) :
    needEmptied s = s.withPs { s.ps with engine := .idle } := by
  unfold needEmptied
  rw [if_neg running]
  exact if_neg (by simp [idle])

theorem needEmptied_shape (s : State) :
    ∃ e c f, needEmptied s = s.withPs { s.ps with engine := e, cache := c, fetchIndex := f } := by
  by_cases stop : s.ps.engine = .errorStop
  · exact ⟨_, _, _, needEmptied_of_errorStop stop⟩
  · cases fetch : canFetch (setEngine .idle s) with
    | true => exact ⟨_, _, _, needEmptied_fetches stop fetch⟩
    | false => exact ⟨_, _, _, needEmptied_idles stop fetch⟩

/-- An emptied printer outside ERROR_STOP can fetch when a descriptor waits. -/
theorem canFetch_emptied (c : CancelRequest) (s : State) : canFetch (setEngine .idle (emptied c s)) = true ↔
    s.ringsSet = true ∧ s.cbm.standby = false ∧ s.ps.woundBack = false ∧
      ringDiff (s.geo Geometry.pqCap) (emptiedFetchIndex c s) s.ps.consumer <
        ringDiff (s.geo Geometry.pqCap) s.cbm.pqProd s.ps.consumer := by
  have rings := cancelBadFlag_ringsSet s
  have geo := cancelBadFlag_geo s Geometry.pqCap
  have standby : (cancelBadFlag s).cbm.standby = s.cbm.standby := by simp
  rw [canFetch_iff, emptied_eq]
  constructor
  · rintro ⟨set, awake, _, _, _, forward, waits⟩
    refine ⟨rings ▸ set, standby ▸ awake, forward, ?_⟩
    rw [← geo, ← cancelBadFlag_pqProd s]
    exact waits
  · rintro ⟨set, awake, forward, waits⟩
    refine ⟨rings.trans set, standby.trans awake, rfl, nofun, rfl, forward, ?_⟩
    rw [← geo, ← cancelBadFlag_pqProd s] at waits
    exact waits

/-- In ERROR_STOP the engine stays there. -/
theorem cancelled_in_errorStop {c : CancelRequest} {s : State} (stop : s.ps.engine = .errorStop) :
    needEmptied (emptied c s) = emptied c s := needEmptied_of_errorStop (by rw [emptied_eq]; exact stop)

/-- Elsewhere it waits for the cache with a new fetch where a descriptor waits. -/
theorem cancelled_fetches {c : CancelRequest} {s : State} (run : s.ps.engine ≠ .errorStop)
    (fetch : canFetch (setEngine .idle (emptied c s)) = true) :
    (needEmptied (emptied c s)).ps.engine = .waitCache ∧
      (needEmptied (emptied c s)).ps.cache = .fetching (emptiedFetchIndex c s) [] ∧
      (needEmptied (emptied c s)).ps.fetchIndex = (emptiedFetchIndex c s + 1) % s.geo Geometry.pqCap := by
  rw [needEmptied_fetches (by rw [emptied_eq]; exact run) fetch, emptied_eq, ← cancelBadFlag_geo]
  exact ⟨rfl, rfl, rfl⟩

/-- With nothing to fetch it idles. -/
theorem cancelled_idles {c : CancelRequest} {s : State} (run : s.ps.engine ≠ .errorStop)
    (none_waits : canFetch (setEngine .idle (emptied c s)) = false) :
    (needEmptied (emptied c s)).ps.engine = .idle ∧ (needEmptied (emptied c s)).ps.cache = .empty ∧
      (needEmptied (emptied c s)).ps.fetchIndex = emptiedFetchIndex c s := by
  rw [needEmptied_idles (by rw [emptied_eq]; exact run) none_waits, emptied_eq]
  exact ⟨rfl, rfl, rfl⟩

/-! ## Acknowledgement (R8, R34, R35, R178) -/

/-- The standing conditions of FLAGS_HI as bits. -/
theorem standingHi_eq (s : State) : standingHi s =
    ((if s.ps.engine == .hotHalt && s.hotAt s.cbm.settings.stopTemp then 0x40 else 0) |||
      (if supplyBelow 46 s then 0x80 else 0) : Byte) := by
  unfold standingHi
  cases s.ps.engine == .hotHalt && s.hotAt s.cbm.settings.stopTemp <;> cases supplyBelow 46 s <;> rfl

/-- HOT_STOP re-latches when it is acknowledged, set, and stands. -/
theorem hotStop_relatched (s : State) (hi : Byte) : (relatched s.cbm.flagsHi hi (standingHi s)).getLsbD 6 =
    (s.cbm.flagsHi.getLsbD 6 && hi.getLsbD 6 && (s.ps.engine == .hotHalt && s.hotAt s.cbm.settings.stopTemp)) := by
  have stands : (standingHi s).getLsbD 6 = (s.ps.engine == .hotHalt && s.hotAt s.cbm.settings.stopTemp) := by
    rw [standingHi_eq]
    cases s.ps.engine == .hotHalt && s.hotAt s.cbm.settings.stopTemp <;> cases supplyBelow 46 s <;> rfl
  unfold relatched
  rw [BitVec.getLsbD_and, BitVec.getLsbD_and, stands]

theorem reportGuardHit_eq (lo : Byte) (s : State) : reportGuardHit lo s =
    s.withMp { s.mp with guardHits := if lo.getLsbD 0 then 0 else s.mp.guardHits } := by
  unfold reportGuardHit
  cases lo.getLsbD 0 <;> rfl

theorem reportDescError_of_unmasked {lo : Byte} (s : State) (h : lo.getLsbD 7 = false) : reportDescError lo s = s :=
  if_neg (ne_true_of_eq_false h)

theorem reportDescError_of_running {lo : Byte} {s : State} (h : s.ps.engine ≠ .errorStop) : reportDescError lo s = s := by
  unfold reportDescError acknowledgeDescError
  rw [if_neg h, ite_self]

theorem reportDescError_of_errorStop {lo : Byte} {s : State} (masked : lo.getLsbD 7 = true) (h : s.ps.engine = .errorStop) :
    reportDescError lo s = idleWork (s.withPs { s.ps with engine := .idle }) := by
  unfold reportDescError acknowledgeDescError
  rw [if_pos masked, if_pos h]
  rfl

theorem reportHotStop_of_unmasked {hi : Byte} (again : Bool) (s : State) (h : hi.getLsbD 6 = false) :
    reportHotStop hi again s = s := if_neg (ne_true_of_eq_false h)

theorem reportHotStop_of_masked {hi : Byte} (again : Bool) (s : State) (h : hi.getLsbD 6 = true) :
    reportHotStop hi again s = acknowledgeHotStop again s := if_pos h

/-- HM is told; outside ACK_WAIT and with no row nothing waits for it. -/
theorem acknowledgeHotStop_eq (again : Bool) (s : State) : acknowledgeHotStop again s =
    match s.hm.halt, s.ps.row with
    | .ackWait, some r =>
      if again then s else if s.hotAt r.warn then s.withHm { s.hm with halt := .coolWait } else endHalt s
    | _, _ => s := by
  unfold acknowledgeHotStop
  cases s.hm.halt <;> cases s.ps.row <;> rfl

theorem acknowledgeHotStop_of_none {again : Bool} {s : State}
    (h : s.hm.halt ≠ .ackWait ∨ s.ps.row = none ∨ again = true) : acknowledgeHotStop again s = s := by
  rw [acknowledgeHotStop_eq]
  split
  next r halt row =>
    rcases h with other | none | relatches
    · exact absurd halt other
    · rw [none] at row; cases row
    · rw [if_pos relatches]
  next => rfl

theorem acknowledgeHotStop_of_ackWait {again : Bool} {s : State} {r : RowRecord} (halt : s.hm.halt = .ackWait)
    (row : s.ps.row = some r) (cleared : again = false) : acknowledgeHotStop again s =
      if s.hotAt r.warn then s.withHm { s.hm with halt := .coolWait } else endHalt s := by
  rw [acknowledgeHotStop_eq, halt, row]
  exact if_neg (by simp [cleared])

/-- A word whose mask is empty stays. -/
theorem acknowledgedWord_zero_mask (w standing : Byte) : acknowledgedWord w 0 standing = w := by
  have all : ~~~(0 : Byte) = BitVec.allOnes 8 := rfl
  rw [acknowledgedWord, all, BitVec.and_allOnes]
  simp [relatched]

/-- Without a standing condition the masked bits clear. -/
theorem acknowledgedWord_zero_standing (w mask : Byte) : acknowledgedWord w mask 0 = w &&& ~~~mask := by
  simp [acknowledgedWord, relatched]

/-- With every bit masked the standing ones stay. -/
theorem acknowledgedWord_all (w standing : Byte) : acknowledgedWord w 0xFF standing = w &&& standing := by
  have all : (0xFF : Byte) = BitVec.allOnes 8 := rfl
  unfold acknowledgedWord relatched
  rw [all, BitVec.not_allOnes, BitVec.and_zero, BitVec.zero_or, BitVec.and_allOnes]

theorem acknowledgedWord_all_none (w : Byte) : acknowledgedWord w 0xFF 0 = 0 :=
  (acknowledgedWord_all w 0).trans BitVec.and_zero

/-- The flags and GUARD_HITS after an acknowledgement, before PS and HM are told. -/
def acknowledgedFlags (lo hi : Byte) (s : State) : State :=
  (s.withCbm { s.cbm with
    flagsLo := acknowledgedWord s.cbm.flagsLo lo 0
    flagsHi := acknowledgedWord s.cbm.flagsHi hi (standingHi s) }).withMp
      { s.mp with guardHits := if lo.getLsbD 0 then 0 else s.mp.guardHits }

theorem acknowledge_eq (lo hi : Byte) (s : State) : acknowledge lo hi s =
    reportHotStop hi (s.cbm.flagsHi.getLsbD 6 && hi.getLsbD 6 &&
      (s.ps.engine == .hotHalt && s.hotAt s.cbm.settings.stopTemp))
        (reportDescError lo (acknowledgedFlags lo hi s)) := by
  rw [← hotStop_relatched]
  unfold acknowledge
  dsimp only
  rw [reportGuardHit_eq]
  rfl

theorem exec_acknowledge {word : FlagWord} {m : Byte} {s : State} (goes : HostGoes s) :
    exec (.acknowledge word m) s =
      .next (settle s (acknowledgeWord word m (landed (FlagWord.ackOffset word) m s))) := by
  rw [exec_snooped (c := .acknowledge word m) rfl goes (host_owned _ (.inl (by cases word <;> decide))), snoop_acknowledge]

/-! ## Standby (R40, R41, R129) -/

theorem queueEmpty_iff (s : State) :
    queueEmpty s = true ↔ s.cbm.geometry = none ∨ s.ps.fetchIndex = s.cbm.pqProd := by
  unfold queueEmpty State.ringsSet
  cases s.cbm.geometry <;> simp

theorem endStandbyPrint_works {s : State}
    (h : (if s.ringsSet then actOnPqProd s else s).ps.engine = .idle ∨
      (if s.ringsSet then actOnPqProd s else s).ps.engine = .waitCache) :
    endStandbyPrint s = idleWork (if s.ringsSet then actOnPqProd s else s) := if_pos h

theorem endStandbyPrint_goes_on {s : State}
    (h : ¬((if s.ringsSet then actOnPqProd s else s).ps.engine = .idle ∨
      (if s.ringsSet then actOnPqProd s else s).ps.engine = .waitCache)) :
    endStandbyPrint s = if s.ringsSet then actOnPqProd s else s := if_neg h

theorem indexWork_unset {s : State} (h : s.cbm.geometry = none) : indexWork s = endStandbyPrint s :=
  if_neg (by simp [ringsSet_of_unset h])

theorem indexWork_set {s : State} (h : s.cbm.geometry.isSome = true) :
    indexWork s = actOnKeyCons (actOnRxCons (endStandbyPrint (boundary s))) := if_pos h

theorem wakeEffect_awake {s : State} (h : s.cbm.standby = false) : wakeEffect s = s := if_neg (by simp [h])

theorem wakeEffect_standby {s : State} (h : s.cbm.standby = true) : wakeEffect s = endStandby s := if_pos h

end Sys2Proof.Machine

namespace Sys2Proof.Proofs

open Sys2Proof Sys2Proof.Machine Sys2Proof.Claims

theorem cancelIsRecordedOrTakesEffect : CancelIsRecordedOrTakesEffect := by
  intro s goes slot awake
  have recorded : cancelRecorded (taken 0x12 s) = (taken 0x12 s).withPs { s.ps with cancel := some ⟨s.cbm.pqProd,
      !s.ps.woundBack && decide (ringDiff (s.geo Geometry.pqCap) s.ps.fetchIndex s.ps.consumer ≤
        ringDiff (s.geo Geometry.pqCap) s.cbm.pqProd s.ps.consumer)⟩ } := by
    unfold cancelRecorded
    rw [limitAhead_eq]
    rfl
  have cancels := fun u (effect : requestCancel (taken 0x12 s) = u) =>
    exec_runs (c := .printCancel) (u := u) rfl rfl goes slot (.inl awake) (congrArg (Prod.mk Result.ok) effect) (.inl nofun)
  refine ⟨fun waits => ?_, fun free => ?_⟩
  · exact cancels _ ((requestCancel_waits (s := taken 0x12 s) ((cancelWaitsRowEnd_iff _).mpr waits)).trans recorded)
  · have now : s.ps.engine.cancelWaitsRowEnd = false := by
      revert free
      cases s.ps.engine <;> decide
    exact cancels _ ((requestCancel_at_once (s := taken 0x12 s) now).trans (congrArg cancelEffect recorded))

theorem cancelEmptiesThePrinter : CancelEmptiesThePrinter := by
  refine ⟨fun _ h => cancelEffect_of_none h, fun s c pending => ?_⟩
  dsimp only
  rw [cancelEffect_of_some pending]
  obtain ⟨e, k, f, shape⟩ := needEmptied_shape (emptied c s)
  refine ⟨?_, ?_, ?_, ?_, ?_, ?_, ?_, ?_, ?_, ?_, ?_, ?_, ?_, ?_, ?_, ?_, ?_, ?_, ?_, ?_, ?_, fun stop => ?_,
    fun run => ⟨fun waits => ?_, fun none_waits => ?_⟩⟩
  case refine_22 => rw [cancelled_in_errorStop stop, emptied_eq]; exact ⟨stop, rfl, rfl⟩
  case refine_23 => exact cancelled_fetches run ((canFetch_emptied c s).mpr waits)
  case refine_24 =>
    refine cancelled_idles run (eq_false_of_ne_true fun fetch => ?_)
    obtain ⟨set, awake, forward, waits⟩ := (canFetch_emptied c s).mp fetch
    rcases none_waits with h | h | h | h
    · simp [h] at set
    · simp [h] at awake
    · simp [h] at forward
    · exact absurd waits (Nat.not_lt.mpr h)
  all_goals rw [shape, emptied_eq]
  case refine_1 => cases s.ps.latch <;> cases s.ps.cache <;> rfl
  case refine_6 => rcases s.ps.access with _ | (_ | _ | _ | _) <;> rfl
  case refine_11 => cases s.ps.row <;> rfl
  case refine_21 => exact cancelBadFlag_cbm_eq s
  all_goals rfl

/-- Settles O18: when the cancel takes effect, and what the emptied printer holds after it. -/
theorem cancelEndsThePrinting : Obligations.CancelEndsThePrinting :=
  ⟨cancelIsRecordedOrTakesEffect, cancelEmptiesThePrinter⟩

theorem acknowledgementClearsFlags : AcknowledgementClearsFlags := by
  refine ⟨fun m s goes => ?_, fun m s goes => ?_⟩
  · have flags : acknowledgedFlags m 0 (landed 0x14 m s) =
        ((landed 0x14 m s).withCbm { s.cbm with flagsLo := s.cbm.flagsLo &&& ~~~m }).withMp
          { (countHost s).mp with guardHits := if m.getLsbD 0 then 0 else s.mp.guardHits } := by
      unfold acknowledgedFlags
      rw [acknowledgedWord_zero_mask, acknowledgedWord_zero_standing]
      rfl
    have acts : exec (.acknowledge .lo m) s =
        .next (settle s (reportDescError m (acknowledgedFlags m 0 (landed 0x14 m s)))) := by
      rw [exec_acknowledge goes]
      show Host.Outcome.next (settle s (acknowledge m 0 (landed 0x14 m s))) = _
      rw [acknowledge_eq, reportHotStop_of_unmasked _ _ rfl]
    refine ⟨fun still => ?_, fun stop masked => ?_⟩
    · rw [acts, ← flags]
      rcases still with run | unmasked
      · rw [reportDescError_of_running (s := acknowledgedFlags m 0 (landed 0x14 m s)) run]
      · rw [reportDescError_of_unmasked _ unmasked]
    · rw [acts, ← flags, reportDescError_of_errorStop (s := acknowledgedFlags m 0 (landed 0x14 m s)) masked stop]
      rfl
  · have flags : acknowledgedFlags 0 m (landed 0x15 m s) = (landed 0x15 m s).withCbm
        { s.cbm with flagsHi := (s.cbm.flagsHi &&& ~~~m) ||| (s.cbm.flagsHi &&& m &&&
          ((if s.ps.engine == .hotHalt && s.hotAt s.cbm.settings.stopTemp then 0x40 else 0) |||
            (if supplyBelow 46 s then 0x80 else 0))) } := by
      unfold acknowledgedFlags
      rw [acknowledgedWord_zero_mask, standingHi_eq]
      rfl
    have acts : exec (.acknowledge .hi m) s = .next (settle s (reportHotStop m
        (s.cbm.flagsHi.getLsbD 6 && m.getLsbD 6 && (s.ps.engine == .hotHalt && s.hotAt s.cbm.settings.stopTemp))
          (acknowledgedFlags 0 m (landed 0x15 m s)))) := by
      rw [exec_acknowledge goes]
      show Host.Outcome.next (settle s (acknowledge 0 m (landed 0x15 m s))) = _
      rw [acknowledge_eq, reportDescError_of_unmasked _ rfl]
      rfl
    refine ⟨fun still => ?_, fun r masked halt row cleared => ?_⟩
    · rw [acts, ← flags]
      cases masked : m.getLsbD 6 with
      | false => rw [reportHotStop_of_unmasked _ _ masked]
      | true =>
        rw [reportHotStop_of_masked _ _ masked, acknowledgeHotStop_of_none]
        rcases still with unmasked | other | none | ⟨hot, set⟩
        · rw [masked] at unmasked; cases unmasked
        · exact .inl other
        · exact .inr (.inl none)
        · exact .inr (.inr (by rw [set, hot]; rfl))
    · rw [acts, ← flags, reportHotStop_of_masked _ _ masked,
        acknowledgeHotStop_of_ackWait (s := acknowledgedFlags 0 m (landed 0x15 m s)) halt row]
      · rfl
      · rcases cleared with cool | clear
        · rw [cool, Bool.and_false]
        · rw [clear, Bool.false_and, Bool.false_and]

theorem clearAllAcknowledgesEveryFlag : ClearAllAcknowledgesEveryFlag := by
  intro s goes slot awake
  have flags : acknowledgedFlags 0xFF 0xFF (taken 0x40 s) = ((taken 0x40 s).withCbm
      { s.cbm with
        pendingCmd := none, flagsLo := 0
        flagsHi := s.cbm.flagsHi &&&
          ((if s.ps.engine == .hotHalt && s.hotAt s.cbm.settings.stopTemp then 0x40 else 0) |||
            (if supplyBelow 46 s then 0x80 else 0)) }).withMp { (countHost s).mp with guardHits := 0 } := by
    unfold acknowledgedFlags
    rw [acknowledgedWord_all_none, acknowledgedWord_all, standingHi_eq]
    rfl
  have engine : reportDescError 0xFF (acknowledgedFlags 0xFF 0xFF (taken 0x40 s)) =
      if s.ps.engine = .errorStop then idleWork ((acknowledgedFlags 0xFF 0xFF (taken 0x40 s)).withPs
        { s.ps with engine := .idle }) else acknowledgedFlags 0xFF 0xFF (taken 0x40 s) := by
    split
    next stop => exact reportDescError_of_errorStop (s := acknowledgedFlags 0xFF 0xFF (taken 0x40 s)) rfl stop
    next run => exact reportDescError_of_running (s := acknowledgedFlags 0xFF 0xFF (taken 0x40 s)) run
  have halt : ∀ v : State, reportHotStop 0xFF (s.cbm.flagsHi.getLsbD 6 && (0xFF : Byte).getLsbD 6 &&
      (s.ps.engine == .hotHalt && s.hotAt s.cbm.settings.stopTemp)) v =
      match v.hm.halt, v.ps.row with
      | .ackWait, some r =>
        if (s.ps.engine == .hotHalt && s.hotAt s.cbm.settings.stopTemp) = true ∧ s.cbm.flagsHi.getLsbD 6 = true then v
        else if v.hotAt r.warn then v.withHm { v.hm with halt := .coolWait } else endHalt v
      | _, _ => v := fun v => by
    have same : (s.cbm.flagsHi.getLsbD 6 && (0xFF : Byte).getLsbD 6 &&
        (s.ps.engine == .hotHalt && s.hotAt s.cbm.settings.stopTemp)) =
        decide ((s.ps.engine == .hotHalt && s.hotAt s.cbm.settings.stopTemp) = true ∧ s.cbm.flagsHi.getLsbD 6 = true) := by
      cases s.ps.engine == .hotHalt && s.hotAt s.cbm.settings.stopTemp <;> cases s.cbm.flagsHi.getLsbD 6 <;> rfl
    rw [reportHotStop_of_masked _ _ rfl, acknowledgeHotStop_eq, same]
    simp only [decide_eq_true_eq]
  have acts : runCommand .clearAll (landed 0x00 0x40 s) = (.ok, acknowledge 0xFF 0xFF (taken 0x40 s)) := rfl
  rw [acknowledge_eq, engine, flags] at acts
  rw [exec_runs (c := .clearAll) rfl rfl goes slot (.inl awake) acts (.inl nofun)]
  exact congrArg (fun u => Host.Outcome.next (settle s (answered 0x01 u))) (halt _)

/-- Settles O22: the flags first, then what PS and HM are told. -/
theorem flagsAreAcknowledged : Obligations.FlagsAreAcknowledged :=
  ⟨acknowledgementClearsFlags, clearAllAcknowledgesEveryFlag⟩

theorem standbyIsEntered : StandbyIsEntered := by
  intro s goes slot awake
  have enters : (s.lu.lineState = .off ∧ s.ps.engine = .idle ∧ queueEmpty (taken 0x50 s) = true) ↔
      s.lu.lineState = .off ∧ s.ps.engine = .idle ∧ (s.cbm.geometry = none ∨ s.ps.fetchIndex = s.cbm.pqProd) := by
    rw [queueEmpty_iff]
    exact Iff.rfl
  refine ⟨fun busy => ?_, fun quiet => ?_⟩
  · exact exec_runs (c := .standby) (r := .refusedState) (u := taken 0x50 s) rfl rfl goes slot (.inl awake)
      (if_neg fun h => busy (enters.mp h)) (.inl nofun)
  · rw [exec_runs (c := .standby) (r := .ok) rfl rfl goes slot (.inl awake) (if_pos (enters.mpr quiet)) (.inl nofun)]
    rfl

theorem wakeEndsStandby : WakeEndsStandby := by
  intro s goes slot
  have wakes := fun u (effect : wakeEffect (taken 0x51 s) = u) =>
    exec_runs (c := .wake) (u := u) rfl rfl goes slot (.inr rfl) (congrArg (Prod.mk Result.ok) effect) (.inl nofun)
  refine ⟨fun awake => ?_, fun standby unset => ?_, fun standby set => ?_⟩
  · exact wakes _ (wakeEffect_awake (s := taken 0x51 s) awake)
  · exact wakes _ ((wakeEffect_standby (s := taken 0x51 s) standby).trans
      (indexWork_unset (s := leaveStandby (taken 0x51 s)) unset))
  · exact wakes _ ((wakeEffect_standby (s := taken 0x51 s) standby).trans
      (indexWork_set (s := leaveStandby (taken 0x51 s)) set))

theorem workThatWaits : WorkThatWaits := by
  refine ⟨fun s => ⟨fun hold => if_pos hold, fun clear feeds => ?_, fun clear none_fed => ?_⟩,
    fun s => ⟨fun idle => endStandbyPrint_works idle, fun h1 h2 => endStandbyPrint_goes_on fun h => h.elim h1 h2⟩,
    fun s => ⟨fun unset => indexWork_unset (s := leaveStandby s) unset, fun set => indexWork_set (s := leaveStandby s) set⟩,
    fun _ => rfl, fun _ => rfl⟩
  · unfold idleWork
    rw [if_neg (by simp [clear]), if_pos feeds]
    rfl
  · unfold idleWork
    rw [if_neg (by simp [clear]), if_neg (by omega)]

/-- Settles O23: STANDBY's conditions, and the end of standby by WAKE with the work that waits. -/
theorem standbyBeginsAndEnds : Obligations.StandbyBeginsAndEnds := ⟨standbyIsEntered, wakeEndsStandby, workThatWaits⟩

end Sys2Proof.Proofs
end

section
/-! PROOFS. The RAM port: the arbiter, the grants of each requester, and the bytes of the status mirror (R9 to R11, R20, R24, R36,
R37, R89, R101, R124, R125, R133 to R137, R174): O24 to O30. -/

namespace Sys2Proof.Machine

open Sys2Proof Sys2Proof.Claims

/-! ## What each requester presents (R9, R24) -/

theorem clearOwed_eq_false_iff (s : State) (i : PartIndex) :
    s.clearOwed i = false ↔ OwedWrite.partIndex i ∉ s.cbm.answers := by
  unfold State.clearOwed
  rw [← Bool.not_eq_true, List.contains_iff_mem]

theorem presents_su_iff (s : State) : presents s .su = true ↔ s.su.deposit ≠ .none ∧
    (s.su.deposit = .indexWait → OwedWrite.partIndex .rxProd ∉ s.cbm.answers) := by
  unfold presents
  cases h : s.su.deposit <;> simp [clearOwed_eq_false_iff]

theorem presents_lu_iff (s : State) : presents s .lu = true ↔ s.lu.ringFetch ≠ .none ∧
    (s.lu.ringFetch = .indexWait → OwedWrite.partIndex .txCons ∉ s.cbm.answers) := by
  unfold presents
  cases h : s.lu.ringFetch <;> simp [clearOwed_eq_false_iff]

theorem presents_ks_iff (s : State) : presents s .ks = true ↔ s.ks.proc ≠ .none ∧
    (s.ks.proc = .indexWait → OwedWrite.partIndex .keyProd ∉ s.cbm.answers) := by
  unfold presents
  cases h : s.ks.proc <;> simp [clearOwed_eq_false_iff]

theorem presents_ps_iff (s : State) : presents s .ps = true ↔ s.ps.access ≠ none ∧
    (s.ps.access = some .indexWrite → OwedWrite.partIndex .pqCons ∉ s.cbm.answers) := by
  unfold presents
  rcases h : s.ps.access with _ | (_ | _ | _ | _) <;> simp [clearOwed_eq_false_iff]

theorem presents_cbm_iff (s : State) : presents s .cbm = true ↔ s.cbm.access ≠ none := Option.isSome_iff_ne_none

/-! ## The arbiter (R11, R13) -/

theorem pick_of_held {s : State} (h : s.mp.resetHeld = true) : pick s = none := if_pos h

theorem pick_of_passes {s : State} (free : s.mp.resetHeld = false) (waits : presents s .cbm = true)
    (passes : 16 ≤ s.mp.passCount) : pick s = some .cbm := by
  unfold pick
  rw [if_neg (ne_true_of_eq_false free), if_pos (by simp [passes, waits])]

/-- Below the pass count the fixed order decides. -/
theorem pick_by_order {s : State} (free : s.mp.resetHeld = false)
    (below : presents s .cbm = false ∨ s.mp.passCount < 16) : pick s =
      if presents s .su then some .su else if presents s .lu then some .lu else if presents s .ks then some .ks
      else if presents s .ps then some .ps else if presents s .cbm then some .cbm else none := by
  unfold pick
  rw [if_neg (ne_true_of_eq_false free), if_neg]
  rcases below with idle | low
  · simp [idle]
  · simp [Nat.not_le.mpr low]

/-! ## Grant rows (R24, R37, log 7) -/

theorem statusPresented_of_none {s : State} (h : ∀ o, s.cbm.access ≠ some (.status o)) : statusPresented s = false := by
  unfold statusPresented
  rcases k : s.cbm.access with _ | (_ | o)
  · rfl
  · rfl
  · exact absurd k (h o)

theorem statusPresented_of_status {s : State} {o : Nat} (h : s.cbm.access = some (.status o)) :
    statusPresented s = true := by
  unfold statusPresented; rw [h]

theorem answerPresented_of_head {kind : OwedWrite → Bool} {s : State} {w : OwedWrite} {rest : List OwedWrite}
    (h : s.cbm.access = some .answer) (head : s.cbm.answers = w :: rest) : answerPresented kind s = kind w := by
  unfold answerPresented; rw [h, head]

/-- Without an answer presented, or with a head of another kind, no answer of the kind is presented. -/
theorem answerPresented_eq_false {kind : OwedWrite → Bool} {s : State} (h : s.cbm.access ≠ some .answer ∨
    ∀ w rest, s.cbm.answers = w :: rest → kind w = false) : answerPresented kind s = false := by
  unfold answerPresented
  rcases k : s.cbm.access with _ | (_ | o)
  · rfl
  · cases head : s.cbm.answers with
    | nil => rfl
    | cons w rest => exact (h.resolve_left (· k)) w rest head
  · rfl

theorem isByte_of_deposit {d : Deposit} (h0 : d ≠ .byte0Wait) (h1 : d ≠ .byte1Wait) : d.isByte = false := by
  cases d with
  | byte0Wait => exact absurd rfl h0
  | byte1Wait => exact absurd rfl h1
  | none | indexWait => rfl

theorem isByte_of_proc {p : Processing} (h : ∀ i, p ≠ .byteWait i) : p.isByte = false := by
  cases p with
  | byteWait i => exact absurd rfl (h i)
  | none | lookupWait | indexWait => rfl

theorem isDescriptorRead_of_other {x : Option PsAccess} (h : ∀ a d, x ≠ some (.descriptorRead a d)) :
    isDescriptorRead x = false := by
  rcases x with _ | (_ | _ | ⟨a, d⟩ | _)
  case some.descriptorRead => exact absurd rfl (h a d)
  all_goals rfl

theorem isImageRead_of_other {x : Option PsAccess} (h : ∀ a d, x ≠ some (.imageRead a d)) : isImageRead x = false := by
  rcases x with _ | (_ | _ | _ | ⟨a, d⟩)
  case some.imageRead => exact absurd rfl (h a d)
  all_goals rfl

/-- A grant row the arbiter chooses, from what the grant does. -/
theorem grantWhen_lands {r : Requester} {ready : Bool} {s u : State} (chosen : pick s = some r) (kind : ready = true)
    (effect : grantEffect r (countInternal r s) = u) : grantWhen r ready s = .next (settle s u) := by
  rw [grantWhen_of_chosen chosen kind, grantTo, effect]

/-! ## CBM's grants (R24, R37) -/

theorem grantCbm_status {s : State} {o : Nat} (h : s.cbm.access = some (.status o)) : grantCbm s = landStatus o s := by
  unfold grantCbm; rw [h]

theorem grantCbm_answer {s : State} {w : OwedWrite} {rest : List OwedWrite} (h : s.cbm.access = some .answer)
    (head : s.cbm.answers = w :: rest) : grantCbm s = landAnswer w rest s := by
  unfold grantCbm; rw [h, head]

/-- The arbiter's counts stand behind no status offset. -/
theorem statusByte_countInternal (r : Requester) (s : State) (o : Nat) :
    statusByte (countInternal r s) o = statusByte s o := by
  have same : statusValue (countInternal r s) o = statusValue s o := by unfold statusValue; rfl
  unfold statusByte
  rw [same]

/-! ## SU's and LU's grants (R89, R101) -/

theorem grantLu_starts {s : State} (fetch : s.lu.ringFetch = .readWait) (online : s.lu.lineState = .online)
    (holds : s.cbm.txProd ≠ s.lu.txCons) :
    grantLu s = startCharacter (s.byteAt (txSlot s)) (s.withLu { s.lu with ringFetch := .indexWait }) := by
  unfold grantLu
  rw [fetch]
  exact if_pos ⟨online, holds⟩

theorem grantLu_abandons {s : State} (fetch : s.lu.ringFetch = .readWait)
    (h : s.lu.lineState ≠ .online ∨ s.cbm.txProd = s.lu.txCons) :
    grantLu s = boundary (s.withLu { s.lu with ringFetch := .none }) := by
  unfold grantLu
  rw [fetch]
  exact if_neg fun ⟨online, holds⟩ => h.elim (· online) holds

theorem grantLu_advances {s : State} (fetch : s.lu.ringFetch = .indexWait) : grantLu s =
    boundary ((writeByte (s.blockAddr (PartIndex.offset .txCons)) (byteOf (ringNext (s.geo Geometry.txCap) s.lu.txCons)) s).withLu
      { s.lu with txCons := ringNext (s.geo Geometry.txCap) s.lu.txCons, ringFetch := .none }) := by
  unfold grantLu; rw [fetch]

theorem grantSu_byte0 {s : State} {e : Entry} {rest : List Entry} (deposit : s.su.deposit = .byte0Wait)
    (head : s.su.staging = e :: rest) :
    grantSu s = (writeByte (streamSlot s 0) e.byte0 s).withSu { s.su with deposit := .byte1Wait } := by
  unfold grantSu; rw [deposit, head]

theorem grantSu_byte1 {s : State} {e : Entry} {rest : List Entry} (deposit : s.su.deposit = .byte1Wait)
    (head : s.su.staging = e :: rest) :
    grantSu s = (writeByte (streamSlot s 1) e.byte1 s).withSu { s.su with deposit := .indexWait } := by
  unfold grantSu; rw [deposit, head]

theorem grantSu_index {s : State} (deposit : s.su.deposit = .indexWait) : grantSu s = landRxProd s := by
  unfold grantSu; rw [deposit]

/-! ## KS's grants (R124, R125) -/

theorem pressesCode_self_iff (e : KeyEvent) : e.pressesCode e.code = true ↔ e.kind = .press ∨ e.kind = .wakePress := by
  unfold KeyEvent.pressesCode
  simp

theorem no_later_press_iff (later : List KeyEvent) (code : Nat) : later.any (fun l => l.pressesCode code) = false ↔
    ∀ l ∈ later, ¬(l.code = code ∧ (l.kind = .press ∨ l.kind = .wakePress)) := by
  simp only [List.any_eq_false, KeyEvent.pressesCode, Bool.and_eq_true, Bool.or_eq_true, beq_iff_eq]

/-- A record replaced is the record found. -/
theorem recordAt_setRecord {s : State} {code : Nat} (f : KeyRecord → KeyRecord) (h : code < s.ks.records.length) :
    recordAt (setRecord code f s) code = f (recordAt s code) := by
  unfold recordAt
  rw [setRecord_scanner]
  simp [List.getD, h, recordAt]

/-- A looked-up press with nothing later of its code becomes KNOWN. -/
theorem recordPress_known {e : KeyEvent} {later : List KeyEvent} {v : Byte} {s : State}
    (inside : e.code < s.ks.records.length)
    (known : (recordAt s e.code).press = .pending ∧ later.any (fun l => l.pressesCode e.code) = false) :
    recordPress e later v s = s.withKs { s.ks with
      records := s.ks.records.set e.code { recordAt s e.code with value := v, press := .known }
      held := knowValue s.ks.held e.code v } := by
  unfold recordPress
  dsimp only
  rw [if_pos known, setPress, setRecord, recordAt_setRecord _ inside]
  simp only [setRecord, State.withKs, List.set_set]

theorem recordPress_unknown {e : KeyEvent} {later : List KeyEvent} {v : Byte} {s : State}
    (other : ¬((recordAt s e.code).press = .pending ∧ later.any (fun l => l.pressesCode e.code) = false)) :
    recordPress e later v s =
      s.withKs { s.ks with records := s.ks.records.set e.code { recordAt s e.code with value := v } } := if_neg other

theorem landKeymap_cons {s : State} {e : KeyEvent} {later : List KeyEvent} (head : s.ks.fifo = e :: later) : landKeymap s =
    beginDeposit (s.byteAt (keymapSlot s e)) (actOnEvent e (s.byteAt (keymapSlot s e))
      (if e.pressesCode e.code then recordPress e later (s.byteAt (keymapSlot s e)) s else s)) := by
  unfold landKeymap; rw [head]

theorem landKeyByte_cons {s : State} {e : KeyEvent} {later : List KeyEvent} (i : Nat) (head : s.ks.fifo = e :: later) :
    landKeyByte i s = (writeByte (keySlot s i) (e.byte i) s).withKs
      { s.ks with proc := if i < 3 then .byteWait (i + 1) else .indexWait } := by
  unfold landKeyByte; rw [head]

theorem beginDeposit_cons {s : State} {e : KeyEvent} {later : List KeyEvent} (v : Byte) (head : s.ks.fifo = e :: later) :
    beginDeposit v s = s.withKs { s.ks with fifo := { e with mapped := some v } :: later, proc := .byteWait 0 } := by
  unfold beginDeposit; rw [head]

theorem grantKs_lookup {s : State} (h : s.ks.proc = .lookupWait) : grantKs s = landKeymap s := by
  unfold grantKs; rw [h]

theorem grantKs_byte {s : State} {i : Nat} (h : s.ks.proc = .byteWait i) : grantKs s = landKeyByte i s := by
  unfold grantKs; rw [h]

theorem grantKs_index {s : State} (h : s.ks.proc = .indexWait) : grantKs s = landKeyProd s := by
  unfold grantKs; rw [h]

/-- Modifiers are the two last codes. -/
theorem isModifier_eq_false_iff (code : Nat) : isModifier code = false ↔ code ≠ 78 ∧ code ≠ 79 := by
  unfold isModifier shiftCode ctrlCode
  simp

theorem acts_iff (k : KeyKind) : k.acts = true ↔ k = .press ∨ k = .repeated := by cases k <;> decide

/-- DIRECT acts on presses and repeats of non-modifiers. -/
theorem actOnEvent_eq (e : KeyEvent) (v : Byte) (s : State) : actOnEvent e v s =
    if s.cbm.settings.direct = true ∧ (e.kind = .press ∨ e.kind = .repeated) ∧ e.code ≠ 78 ∧ e.code ≠ 79 then
      directAction v s else s := by
  unfold actOnEvent
  refine if_congr ?_ rfl rfl
  rw [Bool.and_eq_true, Bool.and_eq_true, Bool.not_eq_true', isModifier_eq_false_iff, acts_iff, and_assoc]

/-! ## PS's grants (R133 to R137) -/

theorem grantPs_result {s : State} (h : s.ps.access = some .resultWrite) : grantPs s = grantResult s := by
  unfold grantPs; rw [h]

theorem grantPs_index {s : State} (h : s.ps.access = some .indexWrite) : grantPs s = grantPqCons s := by
  unfold grantPs; rw [h]

theorem grantPs_descriptor {s : State} {a : Addr} {discard : Bool} (h : s.ps.access = some (.descriptorRead a discard)) :
    grantPs s = if discard then freePs s else landDescriptorByte (s.byteAt a) (freePs s) := by
  unfold grantPs; rw [h]

theorem grantPs_image {s : State} {a : Addr} {discard : Bool} (h : s.ps.access = some (.imageRead a discard)) :
    grantPs s = if discard then freePs s else landImageByte (s.byteAt a) (freePs s) := by
  unfold grantPs; rw [h]

theorem landDescriptorByte_more {v : Byte} {s : State} {p : Nat} {bytes : List Byte} (h : s.ps.cache = .fetching p bytes)
    (short : bytes.length < 7) :
    landDescriptorByte v s = s.withPs { s.ps with cache := .fetching p (bytes ++ [v]) } := by
  unfold landDescriptorByte
  rw [h]
  exact if_pos (by rw [List.length_append, List.length_singleton]; omega)

theorem landDescriptorByte_last {v : Byte} {s : State} {p : Nat} {bytes : List Byte} (h : s.ps.cache = .fetching p bytes)
    (full : bytes.length = 7) :
    landDescriptorByte v s = cacheChanged (s.withPs { s.ps with cache := judgedCache p (bytes ++ [v]) }) := by
  unfold landDescriptorByte
  rw [h]
  exact if_neg (by rw [List.length_append, List.length_singleton]; omega)

theorem landImageByte_more {v : Byte} {s : State} {p k : Nat} {d : Descriptor} {image : Image}
    (h : s.ps.cache = .loading p d image k) (more : k + 1 < d.length) : landImageByte v s = s.withPs
      { s.ps with cache := .loading p d (image.set ((d.startOffset + k) % 72) v) (k + 1) } := by
  unfold landImageByte
  rw [h]
  exact if_pos more

theorem landImageByte_last {v : Byte} {s : State} {p k : Nat} {d : Descriptor} {image : Image}
    (h : s.ps.cache = .loading p d image k) (last : d.length ≤ k + 1) : landImageByte v s = cacheChanged (s.withPs
      { s.ps with cache := .ready p d (image.set ((d.startOffset + k) % 72) v) }) := by
  unfold landImageByte
  rw [h]
  exact if_neg (Nat.not_lt.mpr last)

/-- What a whole descriptor makes of the cache. -/
theorem judgedCache_eq (p : Nat) (bytes : List Byte) : judgedCache p bytes =
    match judgeDescriptor bytes with
    | none => .bad p
    | some d =>
      if d.kind = .dots ∧ d.length ≠ 0 then .loading p d (List.replicate 72 0) 0 else .ready p d (List.replicate 72 0) := by
  unfold judgedCache
  cases judgeDescriptor bytes with
  | none => rfl
  | some d =>
    dsimp only
    by_cases zero : d.length = 0 <;> cases h : d.kind <;> simp [zero, blankImage]

theorem printKindOf_eq (b : Byte) : printKindOf b =
    if b = 1 then some .dots else if b = 2 then some .feed else if b = 3 then some .again else none := by
  revert b; decide

theorem darknessOf_eq (b : Byte) : darknessOf b =
    if b.toNat ≤ 7 then some b.toNat else if b = 0x0F then none else some 7 := by
  revert b; decide

/-- A row count of 0 is 1. -/
theorem toNat_eq_zero_iff (b : Byte) : b.toNat = 0 ↔ b = 0 := by
  rw [← BitVec.toNat_inj]
  rfl

/-! ## The status mirror (R36, R37, R174) -/

/-- Eight bits of a number made of their weights. -/
theorem getLsbD_bits : ∀ a b c d e f g h : Bool,
    let m : Byte := byteOf (bitVal a 1 + bitVal b 2 + bitVal c 4 + bitVal d 8 + bitVal e 16 + bitVal f 32 + bitVal g 64
      + bitVal h 128)
    m.getLsbD 0 = a ∧ m.getLsbD 1 = b ∧ m.getLsbD 2 = c ∧ m.getLsbD 3 = d ∧ m.getLsbD 4 = e ∧ m.getLsbD 5 = f ∧
      m.getLsbD 6 = g ∧ m.getLsbD 7 = h := by decide

/-- A byte is its own number's byte. -/
theorem byteOf_toNat (b : Byte) : byteOf b.toNat = b := by
  unfold byteOf; simp

theorem lineStateByte_eq (l : LineState) : byteOf l.code = (match l with
    | .off => 0 | .listen => 1 | .qualify => 2 | .integrate _ => 3 | .online => 4 | .fade => 5 : Byte) := by
  cases l <;> rfl

theorem engineByte_eq (e : Engine) : byteOf e.code = (match e with
    | .idle => 0 | .waitCache => 1 | .coolPace => 2 | .burn => 3 | .stepWait => 4 | .step => 5 | .held => 6
    | .hotHalt => 7 | .batteryHold => 8 | .errorStop => 9 : Byte) := by
  cases e <;> rfl

theorem windowFlagsByte_eq (w : Window) :
    byteOf w.flags = ((if w.enabled then 0x01 else 0x00) ||| (if w.invert then 0x02 else 0x00) : Byte) := by
  unfold Window.flags
  cases w.enabled <;> cases w.invert <;> rfl

theorem le_foldl_max (l : List Int) : ∀ start : Int, start ≤ l.foldl max start ∧ ∀ t ∈ l, t ≤ l.foldl max start := by
  induction l with
  | nil => exact fun start => ⟨le_refl start, nofun⟩
  | cons a rest ih =>
    intro start
    have ⟨low, all⟩ := ih (max start a)
    rw [List.foldl_cons]
    refine ⟨(le_max_left _ _).trans low, fun t mem => ?_⟩
    rcases List.mem_cons.mp mem with rfl | mem
    · exact (le_max_right _ _).trans low
    · exact all t mem

theorem foldl_max_mem (l : List Int) : ∀ start : Int, l.foldl max start = start ∨ l.foldl max start ∈ l := by
  induction l with
  | nil => exact fun _ => .inl rfl
  | cons a rest ih =>
    intro start
    rw [List.foldl_cons]
    rcases ih (max start a) with eq | mem
    · rw [eq]
      rcases max_choice start a with left | right
      · exact .inl left
      · rw [right]
        exact .inr List.mem_cons_self
    · exact .inr (List.mem_cons_of_mem _ mem)

/-- HOTTEST as an integer: the largest effective temperature, cut into 0..255. -/
theorem hottest_eq (s : State) : (s.hottest : Int) = max 0 (min 255 (s.teffs.foldl max 0)) := by
  unfold State.hottest
  rw [clampInt_eq_max_min (by decide)]
  omega

theorem mem_teffs {s : State} {t : Int} :
    t ∈ s.teffs ↔ ∃ h ∈ s.hm.estimates, s.headTemp + ((h / 16 : Nat) : Int) = t := List.mem_map

/-- No effective temperature within 0..255 is above HOTTEST. -/
theorem le_hottest {s : State} {h : Nat} (mem : h ∈ s.hm.estimates) :
    max 0 (min 255 (s.headTemp + ((h / 16 : Nat) : Int))) ≤ (s.hottest : Int) := by
  have le := (le_foldl_max s.teffs 0).2 _ (mem_teffs.mpr ⟨h, mem, rfl⟩)
  rw [hottest_eq]
  exact max_le_max_left 0 (min_le_min_left 255 le)

/-- HOTTEST is 0 or one of them. -/
theorem hottest_is_one (s : State) : s.hottest = 0 ∨
    ∃ h ∈ s.hm.estimates, (s.hottest : Int) = max 0 (min 255 (s.headTemp + ((h / 16 : Nat) : Int))) := by
  rcases foldl_max_mem s.teffs 0 with zero | mem
  · refine .inl ?_
    have eq := hottest_eq s
    rw [zero] at eq
    omega
  · obtain ⟨h, mem, eq⟩ := mem_teffs.mp mem
    exact .inr ⟨h, mem, by rw [hottest_eq, eq]⟩

end Sys2Proof.Machine

namespace Sys2Proof.Proofs

open Sys2Proof Sys2Proof.Machine Sys2Proof.Claims

/-- Settles O24: a grant row needs the arbiter's choice and an access of its kind. -/
theorem grantNotChosenDoesNothing : Obligations.GrantNotChosenDoesNothing := by
  intro s
  refine ⟨fun c r row other => ?_, fun h => grantWhen_of_other (.inr (statusPresented_of_none h)),
    fun h => grantWhen_of_other (.inr (answerPresented_eq_false (h.imp_right fun other w rest head => ?_))),
    fun h => grantWhen_of_other (.inr (answerPresented_eq_false (h.imp_right fun other w rest head => ?_))),
    fun h => grantWhen_of_other (.inr (answerPresented_eq_false (h.imp_right fun other w rest head => ?_))),
    fun h => grantWhen_of_other (.inr (beq_eq_false_iff_ne.mpr h)),
    fun h => grantWhen_of_other (.inr (beq_eq_false_iff_ne.mpr h)),
    fun h0 h1 => grantWhen_of_other (.inr (isByte_of_deposit h0 h1)),
    fun h => grantWhen_of_other (.inr (beq_eq_false_iff_ne.mpr h)),
    fun h => grantWhen_of_other (.inr (beq_eq_false_iff_ne.mpr h)), fun h => grantWhen_of_other (.inr (isByte_of_proc h)),
    fun h => grantWhen_of_other (.inr (beq_eq_false_iff_ne.mpr h)),
    fun h => grantWhen_of_other (.inr (isDescriptorRead_of_other h)),
    fun h => grantWhen_of_other (.inr (isImageRead_of_other h)),
    fun h => grantWhen_of_other (.inr (beq_eq_false_iff_ne.mpr h)),
    fun h => grantWhen_of_other (.inr (beq_eq_false_iff_ne.mpr h))⟩
  · simp only [List.mem_cons, Prod.mk.injEq, List.not_mem_nil, or_false] at row
    rcases row with ⟨rfl, rfl⟩ | ⟨rfl, rfl⟩ | ⟨rfl, rfl⟩ | ⟨rfl, rfl⟩ | ⟨rfl, rfl⟩ | ⟨rfl, rfl⟩ | ⟨rfl, rfl⟩ | ⟨rfl, rfl⟩ |
      ⟨rfl, rfl⟩ | ⟨rfl, rfl⟩ | ⟨rfl, rfl⟩ | ⟨rfl, rfl⟩ | ⟨rfl, rfl⟩ | ⟨rfl, rfl⟩ | ⟨rfl, rfl⟩
    all_goals exact grantWhen_of_other (.inl other)
  · cases w with
    | partIndex i => exact absurd head (other i rest)
    | result | clearCmd => rfl
  · cases w with
    | result v => exact absurd head (other v rest)
    | partIndex | clearCmd => rfl
  · cases w with
    | clearCmd => exact absurd head (other rest)
    | partIndex | result => rfl

/-- Settles O25: the write of each kind of access CBM presents. -/
theorem controlBlockWriteBacks : Obligations.ControlBlockWriteBacks := by
  intro s chosen
  refine ⟨fun o access => ?_, fun i rest access head => ?_, fun v rest access head => ?_, fun rest access head => ?_⟩
  · refine grantWhen_lands chosen (statusPresented_of_status access)
      ((grantCbm_status (s := countInternal .cbm s) access).trans ?_)
    rw [← statusByte_countInternal .cbm s o]
    rfl
  · exact grantWhen_lands chosen (answerPresented_of_head access head)
      (grantCbm_answer (s := countInternal .cbm s) access head)
  · exact grantWhen_lands chosen (answerPresented_of_head access head)
      (grantCbm_answer (s := countInternal .cbm s) access head)
  · exact grantWhen_lands chosen (answerPresented_of_head access head)
      (grantCbm_answer (s := countInternal .cbm s) access head)

/-- Settles O26: each offset's byte from the value behind it. -/
theorem statusMirrorBytes : Obligations.StatusMirrorBytes := by
  intro s
  refine ⟨byteOf_toNat _, byteOf_toNat _, getLsbD_bits _ _ _ _ _ _ _ _, lineStateByte_eq _, engineByte_eq _, rfl, ?_, ?_, rfl,
    ?_, fun h mem => le_hottest mem, hottest_is_one s, rfl, ?_, ?_, ?_, ?_, ?_, ?_, fun i hi w hw => ?_⟩
  · show byteOf (s.sm.supply.getD 0) = _
    cases s.sm.supply <;> rfl
  · show byteOf (BitVec.ofInt 8 s.headTemp).toNat = _
    rw [byteOf_toNat, State.headTemp]
    cases s.sm.headTemp <;> rfl
  · unfold State.headTemp
    cases s.sm.headTemp <;> rfl
  · exact BitVec.toNat_ofNat _ 8
  · have := s.mp.guardFirst.isLt
    show (byteOf (s.mp.guardFirst.toNat / 256)).toNat = _
    rw [BitVec.toNat_ofNat]
    omega
  · exact BitVec.toNat_ofNat _ 8
  · exact BitVec.toNat_ofNat _ 8
  · show byteOf (s.mp.openPage.getD 0xFF) = _
    cases s.mp.openPage <;> rfl
  · show byteOf (bitVal s.mp.tight 1) = _
    cases s.mp.tight <;> rfl
  · obtain ⟨flags, lower, upper⟩ := statusValue_window hi hw
    rw [statusByte_of_low (by omega) (by omega), statusByte_of_low (by omega) (by omega),
      statusByte_of_low (by omega) (by omega), flags, lower, upper, windowFlagsByte_eq]
    exact ⟨rfl, rfl, rfl⟩

/-- Settles O27: the keymap byte, the event's bytes and the producer, each grant by its processing step. -/
theorem keyEventGrants : Obligations.KeyEventGrants := by
  intro s chosen
  refine ⟨fun e later proc head => ?_, fun v t e later head => beginDeposit_cons v head,
    fun i e later proc small head => ?_, fun proc => ?_⟩
  · intro v r known u w inside
    refine grantWhen_lands chosen (by simp [proc]) ?_
    have recorded : (if e.pressesCode e.code then recordPress e later v u else u) = w := by
      refine if_congr (pressesCode_self_iff e) ?_ rfl
      by_cases k : known
      · rw [recordPress_known (s := u) inside ⟨k.1, (no_later_press_iff later e.code).mpr k.2⟩, if_pos k, if_pos k]
        rfl
      · rw [recordPress_unknown (s := u) fun h => k ⟨h.1, (no_later_press_iff later e.code).mp h.2⟩, if_neg k, if_neg k]
        rfl
    have settings : w.cbm = s.cbm := by
      show (if e.kind = .press ∨ e.kind = .wakePress then _ else u : State).cbm = s.cbm
      split <;> rfl
    show grantKs u = _
    rw [grantKs_lookup (s := u) proc, landKeymap_cons (s := u) head]
    show beginDeposit v (actOnEvent e v (if e.pressesCode e.code then recordPress e later v u else u)) = _
    rw [recorded, actOnEvent_eq, settings]
  · refine grantWhen_lands chosen (by simp [proc, Processing.isByte]) ?_
    show grantKs (countInternal .ks s) = _
    rw [grantKs_byte (s := countInternal .ks s) proc, landKeyByte_cons (s := countInternal .ks s) i head]
    have last : (if i < 3 then Processing.byteWait (i + 1) else .indexWait) =
        if i = 3 then .indexWait else .byteWait (i + 1) := by
      by_cases third : i = 3
      · rw [if_pos third, if_neg (by omega)]
      · rw [if_neg third, if_pos (by omega)]
    rw [last]
    rfl
  · refine grantWhen_lands chosen (by simp [proc]) ?_
    show grantKs (countInternal .ks s) = _
    rw [grantKs_index (s := countInternal .ks s) proc, List.drop_one]
    rfl

theorem arbiterPrecedence : ArbiterPrecedence := by
  intro s
  refine ⟨presents_su_iff s, presents_lu_iff s, presents_ks_iff s, presents_ps_iff s, presents_cbm_iff s, pick_of_held,
    pick_of_passes, fun free below => ?_⟩
  rw [pick_by_order free below]
  refine ⟨fun su => ?_, fun su lu => ?_, fun su lu ks => ?_, fun su lu ks ps => ?_, fun su lu ks ps cbm => ?_, fun idle => ?_⟩
  · simp [su]
  · simp [su, lu]
  · simp [su, lu, ks]
  · simp [su, lu, ks, ps]
  · simp [su, lu, ks, ps, cbm]
  · unfold internalWaiting at idle
    simp only [Bool.or_eq_false_iff] at idle
    simp [idle]

theorem arbiterCounts : ArbiterCounts := fun _ => ⟨rfl, fun r other => by
  cases r with
  | cbm => exact absurd rfl other
  | su | lu | ks | ps => rfl, rfl⟩

/-- Settles O28: what is presented, the fixed order with its pass count, and the counts at each grant. -/
theorem arbiterChoosesAndCounts : Obligations.ArbiterChoosesAndCounts := ⟨arbiterPrecedence, arbiterCounts⟩

theorem transmitRingGrants : TransmitRingGrants := by
  intro s chosen
  refine ⟨fun fetch online holds => ?_, fun fetch gone => ?_, fun fetch => ?_⟩
  · exact grantWhen_lands chosen (by simp [fetch]) (grantLu_starts (s := countInternal .lu s) fetch online holds)
  · exact grantWhen_lands chosen (by simp [fetch]) (grantLu_abandons (s := countInternal .lu s) fetch gone)
  · exact grantWhen_lands chosen (by simp [fetch]) (grantLu_advances (s := countInternal .lu s) fetch)

theorem streamDepositGrants : StreamDepositGrants := by
  intro s chosen
  refine ⟨fun e rest deposit head => ?_, fun e rest deposit head => ?_, fun deposit => ?_⟩
  · refine grantWhen_lands chosen (by simp [deposit, Deposit.isByte])
      ((grantSu_byte0 (s := countInternal .su s) deposit head).trans ?_)
    rw [streamSlot, Nat.add_zero]
    rfl
  · exact grantWhen_lands chosen (by simp [deposit, Deposit.isByte]) (grantSu_byte1 (s := countInternal .su s) deposit head)
  · refine grantWhen_lands chosen (by simp [deposit]) ((grantSu_index (s := countInternal .su s) deposit).trans ?_)
    rw [List.drop_one]
    rfl

/-- Settles O29: LU's and SU's grants by the step of the fetch and of the deposit. -/
theorem ringAndStreamGrants : Obligations.RingAndStreamGrants := ⟨transmitRingGrants, streamDepositGrants⟩

theorem printAccessChosen : PrintAccessChosen := by
  refine ⟨fun s unset => ?_, fun s set owed => ?_, fun s g set done => ⟨fun p bytes cache => ?_, fun p d image k cache => ?_,
    fun no_fetch no_load => ?_⟩⟩
  · unfold nextPsAccess; rw [unset]
  · obtain ⟨g, geometry⟩ := Option.isSome_iff_exists.mp set
    unfold nextPsAccess
    rw [geometry]
    cases h : s.ps.completion with
    | nil => exact absurd h owed
    | cons => rfl
  · unfold nextPsAccess; rw [set, done, cache]
  · unfold nextPsAccess; rw [set, done, cache]
  · unfold nextPsAccess
    rw [set, done]
    cases cache : s.ps.cache with
    | fetching p bytes => exact absurd cache (no_fetch p bytes)
    | loading p d image k => exact absurd cache (no_load p d image k)
    | empty | ready | bad => rfl

theorem fetchReads : FetchReads := by
  intro s a chosen
  have reads := fun {u} (access : s.ps.access = some (.descriptorRead a false))
      (effect : landDescriptorByte (Memory.read s.mem a.toNat) (freePs (countInternal .ps s)) = u) =>
    grantWhen_lands (ready := isDescriptorRead s.ps.access) chosen (by rw [access]; rfl)
      ((grantPs_descriptor (s := countInternal .ps s) access).trans effect)
  have images := fun {u} (access : s.ps.access = some (.imageRead a false))
      (effect : landImageByte (Memory.read s.mem a.toNat) (freePs (countInternal .ps s)) = u) =>
    grantWhen_lands (ready := isImageRead s.ps.access) chosen (by rw [access]; rfl)
      ((grantPs_image (s := countInternal .ps s) access).trans effect)
  refine ⟨fun access => ?_, fun p bytes access cache short => ?_, fun p bytes access cache full => ?_, fun access => ?_,
    fun p d image k access cache more => ?_, fun p d image k access cache last => ?_⟩
  · exact grantWhen_lands (ready := isDescriptorRead s.ps.access) chosen (by rw [access]; rfl)
      (grantPs_descriptor (s := countInternal .ps s) access)
  · exact reads access (landDescriptorByte_more (s := freePs (countInternal .ps s)) cache short)
  · refine reads access ((landDescriptorByte_last (s := freePs (countInternal .ps s)) cache full).trans ?_)
    rw [judgedCache_eq]
    rfl
  · exact grantWhen_lands (ready := isImageRead s.ps.access) chosen (by rw [access]; rfl)
      (grantPs_image (s := countInternal .ps s) access)
  · exact images access (landImageByte_more (s := freePs (countInternal .ps s)) cache more)
  · exact images access (landImageByte_last (s := freePs (countInternal .ps s)) cache last)

theorem descriptorJudgement : DescriptorJudgement := by
  intro b0 b1 b2 b3 b4 b5 b6 b7 addr fields judged
  have fields_eq : ∀ k, descriptorFields k [b0, b1, b2, b3, b4, b5, b6, b7] = fields k := fun k => by
    show ({ kind := k, rows := if b1.toNat = 0 then 1 else b1.toNat, imageAddr := addr, length := b4.toNat,
            startOffset := b5.toNat, darkness := darknessOf b6 } : Descriptor) = fields k
    rw [darknessOf_eq, if_congr (toNat_eq_zero_iff b1) rfl rfl]
  have bad_iff : (fields .dots).badDots = true ↔
      0x8000 ≤ addr ∨ (1 ≤ b4.toNat ∧ 0x8000 ≤ addr + b4.toNat - 1) ∨ 72 ≤ b5.toNat := by
    unfold Descriptor.badDots
    simp only [Bool.or_eq_true, Bool.and_eq_true, decide_eq_true_iff, or_assoc]
    exact Iff.rfl
  have judged_eq : judged = match printKindOf b0 with
      | none => none
      | some .dots => if (fields .dots).badDots then none else some (fields .dots)
      | some k => some (fields k) := by
    rw [← fields_eq .dots]
    show judgeDescriptor _ = _
    unfold judgeDescriptor
    show (match printKindOf b0 with
      | none => none
      | some .dots => _
      | some k => some (descriptorFields k [b0, b1, b2, b3, b4, b5, b6, b7])) = _
    rcases printKindOf b0 with _ | (_ | _ | _)
    · rfl
    · rfl
    · exact congrArg some (fields_eq .feed)
    · exact congrArg some (fields_eq .again)
  rw [printKindOf_eq] at judged_eq
  refine ⟨fun h1 h2 h3 => ?_, fun kind bad => ?_, fun kind inside ends start => ?_, fun kind => ?_, fun kind => ?_⟩
  · rw [judged_eq, if_neg h1, if_neg h2, if_neg h3]
  · rw [judged_eq, if_pos kind]
    exact if_pos (bad_iff.mpr bad)
  · rw [judged_eq, if_pos kind]
    exact if_neg fun bad => by have := bad_iff.mp bad; omega
  · rw [judged_eq, kind]; rfl
  · rw [judged_eq, kind]; rfl

theorem completionWriteBacks : CompletionWriteBacks := by
  intro s c rest chosen head
  refine ⟨fun access => ?_, fun access => ?_⟩
  · refine grantWhen_lands chosen (by simp [access]) ((grantPs_result (s := countInternal .ps s) access).trans ?_)
    unfold grantResult
    rw [show (countInternal .ps s).ps.completion = c :: rest from head]
    dsimp only [landResult]
    cases c.result <;> rfl
  · refine grantWhen_lands chosen (by simp [access]) ((grantPs_index (s := countInternal .ps s) access).trans ?_)
    unfold grantPqCons
    rw [show (countInternal .ps s).ps.completion = c :: rest from head]
    rfl

/-- Settles O30: the access chosen, the fetch reads, the judgement of a descriptor, and the completion's write-backs. -/
theorem printQueueGrants : Obligations.PrintQueueGrants :=
  ⟨printAccessChosen, fetchReads, descriptorJudgement, completionWriteBacks⟩

end Sys2Proof.Proofs
end

section
/-! PROOFS. The resets' values and the line's states: carrier, timers, integration, quality, entry to ONLINE (R1, R13, R21, R45 to
R64, R109): O4, O5, O31, O37, O38, O39. -/

namespace Sys2Proof.Machine

open Sys2Proof Sys2Proof.Claims

/-! ## What a reset leaves in each block (R43, R67, R93, R111, R132, R156, R167, R185) -/

theorem controlBlockReset_afterReset : ControlBlockReset ControlBlock.afterReset :=
  ⟨rfl, rfl, rfl, rfl, rfl, rfl, rfl, rfl, rfl, rfl, rfl, rfl, rfl, rfl, rfl, rfl⟩

theorem lineReset_afterReset : LineReset LineUnit.afterReset :=
  ⟨rfl, rfl, rfl, rfl, rfl, rfl, rfl, rfl, rfl, rfl, rfl, rfl, rfl, rfl, rfl, rfl, rfl, rfl, rfl, rfl, rfl⟩

theorem streamReset_afterReset : StreamReset StreamUnit.afterReset := ⟨rfl, rfl, rfl, rfl, rfl, rfl⟩

theorem printReset_afterReset : PrintReset PrintSequencer.afterReset :=
  ⟨rfl, rfl, rfl, rfl, rfl, rfl, rfl, rfl, rfl, rfl, rfl, rfl, rfl, rfl⟩

theorem strobeReset_afterReset : StrobeReset StrobePlanner.afterReset := ⟨rfl, rfl, rfl, rfl, rfl⟩

theorem stepReset_afterReset : StepReset PaperDrive.afterReset := ⟨rfl, rfl, rfl⟩

/-- The waiting accesses are served from the first on. -/
theorem serveAll_eq_foldl (l : List HostAccess) : ∀ s : State, serveAll l s = l.foldl (fun t x => serveWaiting x t) s := by
  induction l with
  | nil => exact fun _ => rfl
  | cons x rest ih => exact fun s => ih (serveWaiting x s)

/-! ## Events of the line -/

/-- The step of an event whose condition holds, from what its effect is. -/
theorem eventWhen_lands {ready : Bool} {effect : State → State} {s u : State} (holds : ready = true) (eq : effect s = u) :
    eventWhen ready effect s = .next (settle s u) := by
  rw [eventWhen_of_ready holds, eq]

/-- The expiry of a running timer, from what its effect is at the due moment. -/
theorem expiry_lands {timer : Timer} {start d : Nat} {effect : State → State} {s u : State} (runs : timer = some start)
    (eq : effect (atTime (start + d) s) = u) : expiry timer d effect s = .next (settle s u) := by
  rw [expiry_of_running runs, ← eq]
  rfl

/-! ## Carrier (R46 to R57) -/

theorem carrierUp_listen {s : State} (h : s.lu.lineState = .listen) : carrierUp s = s.withLu
    { s.lu with carrier := true, lineState := .qualify, qualifyTimer := some s.env.now } := by
  unfold carrierUp; rw [h]; rfl

theorem carrierUp_fade {s : State} (h : s.lu.lineState = .fade) : carrierUp s = s.withLu
    { s.lu with carrier := true, lineState := .integrate .again, integRun := ⟨0, 15⟩ } := by
  unfold carrierUp; rw [h]; rfl

theorem carrierUp_other {s : State} (listen : s.lu.lineState ≠ .listen) (fade : s.lu.lineState ≠ .fade) :
    carrierUp s = s.withLu { s.lu with carrier := true } := by
  unfold carrierUp
  cases h : s.lu.lineState with
  | listen => exact absurd h listen
  | fade => exact absurd h fade
  | off | qualify | online => rfl
  | integrate => rfl

theorem carrierLost_qualify {s : State} (h : s.lu.lineState = .qualify) : carrierLost s = s.withLu
    { s.lu with carrier := false, lineState := .listen, qualifyTimer := none } := by
  unfold carrierLost; rw [h]; rfl

theorem carrierLost_first {s : State} (h : s.lu.lineState = .integrate .first) : carrierLost s = s.withLu
    { s.lu with
      carrier := false, lineState := .listen, integRun := ⟨0, 15⟩
      txRest := if s.lu.role = .originate then .silent else .mark } := by
  unfold carrierLost; rw [h]; rfl

theorem carrierLost_again {s : State} (h : s.lu.lineState = .integrate .again) : carrierLost s = s.withLu
    { s.lu with carrier := false, lineState := .fade, lossHold := some ⟨s.env.now, s.cbm.settings.lossHold⟩ } := by
  unfold carrierLost; rw [h]; rfl

theorem carrierLost_quiet {s : State} (h : s.lu.lineState = .off ∨ s.lu.lineState = .listen ∨ s.lu.lineState = .fade) :
    carrierLost s = s.withLu { s.lu with carrier := false } := by
  unfold carrierLost
  rcases h with h | h | h <;> rw [h]

/-- A character under way completes, a break is cut. -/
theorem cutBreak_eq (op : Option TxOp) : cutBreak op = match op with
    | some (.character c r f t) => some (.character c r f t)
    | _ => none := by
  rcases op with _ | (_ | _ | _) <;> rfl

/-- The entry to FADE keeps a pending break, cuts one being sent, and hands a frame or candidate in progress to SU as lost. -/
theorem enterFade_eq (s : State) : enterFade s =
    let u := s.withLu { s.lu with
      lineState := .fade, lossHold := some ⟨s.env.now, s.cbm.settings.lossHold⟩
      receiver := .idle, idleMark := false, idleRun := ⟨0, 15⟩, txRest := .mark
      breakReq := breakReqAfterFade s.lu
      txOp := cutBreak s.lu.txOp }
    if s.lu.receiver.inProgress then arriveLost u else u := rfl

theorem carrierLost_online {s : State} (h : s.lu.lineState = .online) :
    carrierLost s = enterFade (s.withLu { s.lu with carrier := false }) := by
  unfold carrierLost; rw [h]

/-! ## Integration (R52, R53) -/

theorem bitDecided_of_stopped {s : State} (d : Decision) (m : Nat) (h : s.lu.demod = false) : bitDecided d m s = s := by
  unfold bitDecided; rw [h]; rfl

theorem bitDecided_integrate {s : State} {k : IntegrationKind} (d : Decision) (m : Nat) (runs : s.lu.demod = true)
    (h : s.lu.lineState = .integrate k) : bitDecided d m s = integrationBit d m s := by
  unfold bitDecided; rw [runs, h]; rfl

theorem bitDecided_online {s : State} (d : Decision) (m : Nat) (runs : s.lu.demod = true) (h : s.lu.lineState = .online) :
    bitDecided d m s = receiverBit d m s := by
  unfold bitDecided; rw [runs, h]; rfl

/-- In the other states a decision changes nothing. -/
theorem bitDecided_unused {s : State} (d : Decision) (m : Nat) (h : s.lu.lineState ∈ [.off, .listen, .qualify, .fade]) :
    bitDecided d m s = s := by
  unfold bitDecided
  simp only [List.mem_cons, List.not_mem_nil, or_false] at h
  rcases h with h | h | h | h <;> rw [h] <;> split <;> rfl

theorem integrationBit_counts {s : State} (m : Nat) (early : s.lu.integRun.count < 9) : integrationBit .mark m s =
    s.withLu { s.lu with integRun := ⟨s.lu.integRun.count + 1, min s.lu.integRun.lowest m⟩ } :=
  if_neg (show ¬10 ≤ s.lu.integRun.count + 1 by omega)

theorem integrationBit_tenth {s : State} (m : Nat) (last : s.lu.integRun.count = 9) : integrationBit .mark m s =
    enterOnline (s.withLu { s.lu with integRun := ⟨s.lu.integRun.count + 1, min s.lu.integRun.lowest m⟩ }) :=
  if_pos (show 10 ≤ s.lu.integRun.count + 1 by omega)

theorem tenthIsNext_iff {s : State} {k : IntegrationKind} (runs : s.lu.demod = true) (h : s.lu.lineState = .integrate k) :
    tenthIsNext s.lu = true ↔ s.lu.integRun.count = 9 := by
  unfold tenthIsNext
  rw [h, runs]
  simp

/-- The two tones of a tie give one step. -/
theorem exec_bitDecision_tie (d e : Decision) (s : State) : exec (.bitDecision d 0) s = exec (.bitDecision e 0) s := rfl

/-! ## Quality (R62, R64) -/

theorem evaluateQuiet_enters {s : State} (loud : s.lu.quiet = false) (low : s.lu.qs < s.cbm.settings.quietEnter) :
    evaluateQuiet s = (s.withLu { s.lu with quiet := true }).withCbm { s.cbm with flagsHi := s.cbm.flagsHi ||| 0x10 } := by
  unfold evaluateQuiet
  rw [if_neg (ne_true_of_eq_false loud), if_pos low]
  rfl

theorem evaluateQuiet_stays_loud {s : State} (loud : s.lu.quiet = false) (high : s.cbm.settings.quietEnter ≤ s.lu.qs) :
    evaluateQuiet s = s := by
  unfold evaluateQuiet
  rw [if_neg (ne_true_of_eq_false loud), if_neg (Nat.not_lt.mpr high)]

theorem evaluateQuiet_exits {s : State} (quiet : s.lu.quiet = true) (high : s.cbm.settings.quietExit ≤ s.lu.qs) :
    evaluateQuiet s = s.withLu { s.lu with quiet := false } := by
  unfold evaluateQuiet
  rw [if_pos quiet, if_pos high]

theorem evaluateQuiet_stays_quiet {s : State} (quiet : s.lu.quiet = true) (low : s.lu.qs < s.cbm.settings.quietExit) :
    evaluateQuiet s = s := by
  unfold evaluateQuiet
  rw [if_pos quiet, if_neg (Nat.not_le.mpr low)]

/-- The evaluation of quiet mode leaves Qs. -/
theorem evaluateQuiet_qs (s : State) : (evaluateQuiet s).lu.qs = s.lu.qs := by
  unfold evaluateQuiet
  split
  · split <;> rfl
  · split <;> rfl

/-! ## Entry to ONLINE (R53, R109) -/

theorem orderMatters_iff (s : State) : orderMatters s = true ↔ atBoundary s = true ∧ ownFlowNext s ≠ s.su.ownFlow := by
  unfold orderMatters
  rw [Bool.and_eq_true, bne_iff_ne]

theorem onlineBoundary_plain {s : State} (h : atBoundary s = false ∨ ownFlowNext s = s.su.ownFlow) :
    onlineBoundary s = boundary (evaluateFlow s) := by
  refine if_neg fun matters => ?_
  obtain ⟨at_boundary, changes⟩ := (orderMatters_iff s).mp matters
  rcases h with off | same
  · rw [at_boundary] at off
    contradiction
  · exact changes same

/-- Where the order matters, the next input order or a free one decides. -/
theorem onlineBoundary_ordered {s : State} (at_boundary : atBoundary s = true) (changes : ownFlowNext s ≠ s.su.ownFlow) :
    onlineBoundary s = if nextOrder s.env then evaluateFlow (boundary (s.withEnv (dropOrder s.env)))
      else boundary (evaluateFlow (s.withEnv (dropOrder s.env))) :=
  if_pos ((orderMatters_iff s).mpr ⟨at_boundary, changes⟩)

end Sys2Proof.Machine

namespace Sys2Proof.Proofs

open Sys2Proof Sys2Proof.Machine Sys2Proof.Claims

/-- Settles O4: the reset state, block by block. -/
theorem powerOnResetValues : Obligations.PowerOnResetValues := fun straps s =>
  ⟨afterPowerOnReset straps s, rfl, rfl, rfl, rfl, rfl, rfl, rfl, rfl, rfl, rfl, rfl, rfl, rfl, rfl, rfl,
    controlBlockReset_afterReset, lineReset_afterReset, rfl, rfl, rfl, rfl, streamReset_afterReset, rfl,
    keyReset_afterReset s.env.now, printReset_afterReset, strobeReset_afterReset, rfl, rfl, stepReset_afterReset, rfl⟩

/-- Settles O5: the same values with what the line keeps, no slot while it is held, and the accesses served at its release. -/
theorem resetLineValues : Obligations.ResetLineValues := by
  refine ⟨fun s => ⟨afterResetLine s, rfl, rfl, rfl, rfl, rfl, rfl, rfl, rfl, rfl, rfl, rfl, rfl, rfl, rfl, rfl,
    controlBlockReset_afterReset, lineReset_afterReset, rfl, rfl, rfl, rfl, streamReset_afterReset, rfl,
    keyReset_afterReset s.env.now, printReset_afterReset, strobeReset_afterReset, rfl, rfl, stepReset_afterReset, rfl,
    pick_of_held rfl⟩, fun straps s held => ?_, fun straps s free => if_neg (ne_true_of_eq_false free)⟩
  refine (if_pos held : execResetLineRelease straps s = _).trans ?_
  rw [serveAll_eq_foldl]
  rfl

/-- Settles O31: the entry's own part, and the order of the own-flow evaluation and the first boundary. -/
theorem entryToOnline : Obligations.EntryToOnline := by
  refine ⟨fun s => rfl, fun s plain => onlineBoundary_plain plain, fun s at_boundary changes => ⟨fun first rest input => ?_,
    fun input => ?_⟩⟩
  · rw [onlineBoundary_ordered at_boundary changes]
    unfold nextOrder dropOrder
    rw [input]
  · rw [onlineBoundary_ordered at_boundary changes]
    have used : dropOrder s.env = { s.env with orderUsed := s.env.orderUsed + 1 } := by
      unfold dropOrder
      split
      next first rest given =>
        rw [input] at given
        contradiction
      next => rfl
    rw [used]
    split
    · exact .inl rfl
    · exact .inr rfl

theorem carrierPresentMovesTheLine : CarrierPresentMovesTheLine := by
  refine fun s => ⟨fun unchanged => eventWhen_of_not_ready (by rcases unchanged with h | h <;> simp [h]), fun runs absent => ?_⟩
  have ready : (s.lu.demod && !s.lu.carrier) = true := by rw [runs, absent]; rfl
  exact ⟨fun listen => eventWhen_lands ready (carrierUp_listen listen), fun fade => eventWhen_lands ready (carrierUp_fade fade),
    fun listen fade => eventWhen_lands ready (carrierUp_other listen fade)⟩

theorem carrierAbsentMovesTheLine : CarrierAbsentMovesTheLine := by
  refine fun s => ⟨fun unchanged => eventWhen_of_not_ready (by rcases unchanged with h | h <;> simp [h]), fun runs present => ?_⟩
  have ready : (s.lu.demod && s.lu.carrier) = true := by rw [runs, present]; rfl
  refine ⟨fun qualify => eventWhen_lands ready (carrierLost_qualify qualify),
    fun first => eventWhen_lands ready (carrierLost_first first), fun again => eventWhen_lands ready (carrierLost_again again),
    fun online => eventWhen_lands ready ?_, fun quiet => eventWhen_lands ready (carrierLost_quiet quiet)⟩
  rw [carrierLost_online online, enterFade_eq]
  rw [show cutBreak (s.withLu { s.lu with carrier := false }).lu.txOp = _ from cutBreak_eq s.lu.txOp]
  generalize inside : s.lu.receiver = receiver
  show (if Receiver.inProgress s.lu.receiver then _ else _) = _
  rw [inside]
  cases receiver <;> rfl

/-- Settles O37: each line state's own move. -/
theorem carrierMovesTheLine : Obligations.CarrierMovesTheLine := ⟨carrierPresentMovesTheLine, carrierAbsentMovesTheLine⟩

theorem lineTimersExpire : LineTimersExpire := by
  refine fun s => ⟨fun start runs => expiry_lands runs rfl, fun start runs => expiry_lands runs rfl, fun start limit runs => ?_,
    fun stopped => expiry_of_stopped stopped, fun stopped => expiry_of_stopped stopped, fun stopped => ?_⟩
  · show execLossHoldExpiry s = _
    unfold execLossHoldExpiry
    rw [runs]
    exact expiry_lands rfl rfl
  · show execLossHoldExpiry s = _
    unfold execLossHoldExpiry
    rw [stopped]

theorem integrationCountsTenMarks : IntegrationCountsTenMarks := by
  refine fun s m => ⟨fun k runs integrates => ⟨fun pos => ?_, fun early => ⟨?_, ?_⟩, fun last c mem => ?_⟩,
    fun d runs unused => ?_, fun d stopped => eventWhen_of_not_ready stopped, exec_bitDecision_tie .space .mark s, rfl⟩
  · refine eventWhen_lands runs ?_
    rw [decisionOf_of_pos pos, bitDecided_integrate _ _ runs integrates]
    rfl
  · refine eventWhen_lands runs ?_
    rw [decisionOf_mark, bitDecided_integrate _ _ runs integrates, integrationBit_counts _ early]
  · exact eventWhen_of_not_ready (Bool.eq_false_iff.mpr fun h => by
      have := (tenthIsNext_iff runs integrates).mp h
      omega)
  · have tenth : bitDecided .mark m.val s = enterOnline (s.withLu
        { s.lu with integRun := ⟨s.lu.integRun.count + 1, min s.lu.integRun.lowest m.val⟩ }) := by
      rw [bitDecided_integrate _ _ runs integrates, integrationBit_tenth _ last]
    simp only [List.mem_cons, List.not_mem_nil, or_false] at mem
    rcases mem with rfl | rfl
    · exact eventWhen_lands runs (by rw [decisionOf_mark, tenth])
    · exact eventWhen_lands ((tenthIsNext_iff runs integrates).mpr last) tenth
  · exact eventWhen_lands runs (bitDecided_unused _ _ unused)

/-- Settles O38: the three timers, and the run of ten marks. -/
theorem lineTimersAndIntegration : Obligations.LineTimersAndIntegration := ⟨lineTimersExpire, integrationCountsTenMarks⟩

theorem qualityUpdate : QualityUpdate := by
  refine fun m s => ⟨rfl, fun bounded margin => ?_⟩
  rw [updateQs, evaluateQuiet_qs]
  show s.lu.qs - s.lu.qs / 4 + 4 * m ≤ 240
  omega

theorem quietModeEvaluation : QuietModeEvaluation := fun _ =>
  ⟨evaluateQuiet_enters, evaluateQuiet_stays_loud, evaluateQuiet_exits, evaluateQuiet_stays_quiet⟩

/-- Settles O39: the update of Qs within its bound, and quiet mode by its two shadows. -/
theorem lineQualityAndQuietMode : Obligations.LineQualityAndQuietMode := ⟨qualityUpdate, quietModeEvaluation⟩

end Sys2Proof.Proofs
end

section
/-! PROOFS. The receiver: decisions outside a frame, frames, break candidates (R45, R62, R63, R70 to R79): O32, O33, O40. -/

namespace Sys2Proof.Machine

open Sys2Proof Sys2Proof.Claims

/-! ## The rows of one decision while ONLINE (log 12) -/

theorem receiving_of_online {s : State} (runs : s.lu.demod = true) (online : s.lu.lineState = .online) :
    receiving s.lu = true := by
  unfold receiving; rw [runs, online]; rfl

theorem exec_bitDecision_online {s : State} (d : Decision) (m : Fin 16) (runs : s.lu.demod = true)
    (online : s.lu.lineState = .online) :
    exec (.bitDecision d m) s = .next (settle s (receiverBit (decisionOf d m.val) m.val s)) :=
  eventWhen_lands runs (bitDecided_online _ _ runs online)

/-- A row whose own condition holds gives the receiver its decision. -/
theorem eventWhen_receives {s : State} {ready : Bool} {d : Decision} {m : Nat} (runs : s.lu.demod = true)
    (online : s.lu.lineState = .online) (holds : ready = true) :
    eventWhen (receiving s.lu && ready) (bitDecided d m) s = .next (settle s (receiverBit d m s)) :=
  eventWhen_lands (by rw [receiving_of_online runs online, holds]; rfl) (bitDecided_online _ _ runs online)

/-- A row whose own condition fails leaves the state. -/
theorem eventWhen_not_received {s : State} {ready : Bool} {effect : State → State} (fails : ready = false) :
    eventWhen (receiving s.lu && ready) effect s = .next s :=
  eventWhen_of_not_ready (by rw [fails, Bool.and_false])

/-- Two rows name a mark outside a frame. -/
theorem exec_mark_outside {s : State} {m : Fin 16} {c : Instr} (runs : s.lu.demod = true)
    (online : s.lu.lineState = .online) (outside : outsideFrame s.lu.receiver = true)
    (mem : c ∈ [Instr.bitDecision .mark m, .idleMarkDecision m]) :
    exec c s = .next (settle s (receiverBit .mark m.val s)) := by
  simp only [List.mem_cons, List.not_mem_nil, or_false] at mem
  rcases mem with rfl | rfl
  · rw [exec_bitDecision_online _ _ runs online, decisionOf_mark]
  · exact eventWhen_receives runs online outside

/-! ## Outside a frame (R63, R70, R76, R77) -/

theorem idleMarkBit_counts {s : State} (m : Nat) (early : s.lu.idleRun.count + 1 ≠ 10) : idleMarkBit m s = s.withLu
    { s.lu with idleMark := true, idleRun := ⟨s.lu.idleRun.count + 1, min s.lu.idleRun.lowest m⟩ } := if_neg early

theorem idleMarkBit_tenth {s : State} (m : Nat) (last : s.lu.idleRun.count = 9) : idleMarkBit m s =
    updateQs (min s.lu.idleRun.lowest m) (s.withLu { s.lu with idleMark := true, idleRun := ⟨0, 15⟩ }) :=
  if_pos (show s.lu.idleRun.count + 1 = 10 by omega)

theorem outsideFrame_of_waiting {r : Receiver} (h : r = .hunt ∨ r = .brk) : outsideFrame r = true := by
  rcases h with rfl | rfl <;> rfl

/-- A mark in HUNT and in BREAK: the receiver hunts, and the idle run counts the mark. -/
theorem receiverBit_mark {s : State} (m : Nat) (h : s.lu.receiver = .hunt ∨ s.lu.receiver = .brk) :
    receiverBit .mark m s = idleMarkBit m (s.withLu { s.lu with receiver := .hunt }) := by
  unfold receiverBit
  rcases h with h | h
  · have same : s.withLu { s.lu with receiver := .hunt } = s := by rw [← h]; rfl
    rw [h, same]
    rfl
  · rw [h]
    rfl

theorem receiverBit_space {s : State} (m : Nat) (h : s.lu.receiver = .hunt ∨ s.lu.receiver = .brk) :
    receiverBit .space m s = s.withLu { s.lu with idleMark := false, idleRun := ⟨0, 15⟩ } := by
  unfold receiverBit
  rcases h with h | h <;> rw [h] <;> rfl

theorem receiverBit_inVerify {s : State} (d : Decision) (m : Nat) (h : s.lu.receiver = .verify) :
    receiverBit d m s = verifyBit d m s := by
  unfold receiverBit; rw [h]

/-- A false start: its mark is the first of the emptied idle run (log 16). -/
theorem verifyBit_mark (m : Fin 16) (s : State) : verifyBit .mark m.val s =
    s.withLu { s.lu with receiver := .hunt, idleMark := true, idleRun := ⟨1, m.val⟩ } := by
  have low : min 15 m.val = m.val := Nat.min_eq_right (Nat.le_of_lt_succ m.isLt)
  have counts := idleMarkBit_counts (s := s.withLu { s.lu with receiver := .hunt, idleRun := emptyRun }) m.val
    (show (0 : Nat) + 1 ≠ 10 by decide)
  refine counts.trans ?_
  show s.withLu { s.lu with receiver := .hunt, idleMark := true, idleRun := ⟨1, min 15 m.val⟩ } = _
  rw [low]

theorem tenthIdleIsNext_of_tenth {l : LineUnit} (h : l.receiver = .hunt ∨ l.receiver = .brk) (last : l.idleRun.count = 9) :
    tenthIdleIsNext l = true := by
  unfold tenthIdleIsNext
  rw [last, outsideFrame_of_waiting h]
  rcases h with h | h <;> rw [h] <;> rfl

/-! ## Frames (R71 to R74) -/

theorem receiverBit_inFrame {s : State} {r : FrameRecord} (d : Decision) (m : Nat) (h : s.lu.receiver = .frame r) :
    receiverBit d m s = frameBit r d m s := by
  unfold receiverBit; rw [h]

/-- The decision recorded in a frame: a tie is a mark. -/
theorem decisionOf_isMark (d : Decision) (m : Nat) : (decisionOf d m == .mark) = (d == .mark || m == 0) := by
  unfold decisionOf
  by_cases tie : m = 0
  · rw [if_pos tie, tie]
    cases d <;> rfl
  · rw [if_neg tie, beq_eq_false_iff_ne.mpr tie, Bool.or_false]

theorem frameBit_collects {s : State} {r : FrameRecord} (d : Decision) (m : Nat)
    (more : r.bits.length + 2 < s.lu.format.length) :
    frameBit r (decisionOf d m) m s =
      s.withLu { s.lu with receiver := .frame ⟨r.bits ++ [d == .mark || m == 0], min r.lowest m, r.overlap⟩ } := by
  rw [← decisionOf_isMark]
  refine if_neg ?_
  show ¬s.lu.format.length ≤ (r.bits ++ _).length + 1
  rw [List.length_append, List.length_singleton]
  omega

theorem frameBit_completes {s : State} {r : FrameRecord} (d : Decision) (m : Nat)
    (last : r.bits.length + 2 = s.lu.format.length) :
    frameBit r (decisionOf d m) m s = completeFrame ⟨r.bits ++ [d == .mark || m == 0], min r.lowest m, r.overlap⟩ s := by
  rw [← decisionOf_isMark]
  refine if_pos ?_
  show s.lu.format.length ≤ (r.bits ++ _).length + 1
  rw [List.length_append, List.length_singleton]
  omega

theorem lastStopIsNext_eq {l : LineUnit} {r : FrameRecord} (h : l.receiver = .frame r) :
    lastStopIsNext l = (r.bits.length + 2 == l.format.length) := by
  unfold lastStopIsNext; rw [h]

/-- All data decisions space with a space stop bit: a break candidate. -/
theorem completeFrame_candidate {s : State} {r : FrameRecord} (dark : (r.bits.take s.lu.format.dataBits).all (fun b => !b) = true)
    (framing : framingError s.lu.format r.bits = true) : completeFrame r s =
      (updateQs r.lowest s).withLu { (updateQs r.lowest s).lu with
        receiver := .candidate ⟨parityError s.lu.format r.bits, framingError s.lu.format r.bits,
          decide (r.lowest < s.cbm.settings.weakMargin) || r.overlap, s.lu.format.length⟩ } :=
  if_pos (Bool.and_eq_true_iff.mpr ⟨dark, framing⟩)

/-- Any other frame is delivered. -/
theorem completeFrame_delivers {s : State} {r : FrameRecord}
    (other : (r.bits.take s.lu.format.dataBits).all (fun b => !b) = false ∨ framingError s.lu.format r.bits = false) :
    completeFrame r s = deliverFrame (byteOf (charValue (r.bits.take s.lu.format.dataBits))) (parityError s.lu.format r.bits)
      (framingError s.lu.format r.bits) (decide (r.lowest < s.cbm.settings.weakMargin) || r.overlap)
      ((updateQs r.lowest s).withLu { (updateQs r.lowest s).lu with receiver := .hunt }) :=
  if_neg (ne_true_of_eq_false (Bool.and_eq_false_iff.mpr other))

theorem deliverFrame_arrives {c : Byte} {parity framing weak : Bool} {s : State} (h : parity = true ∨ framing = true ∨
    flowChar s.cbm.settings s.lu.remoteHold c = .none) :
    deliverFrame c parity framing weak s = arrive (.line c parity framing weak) s := by
  unfold deliverFrame
  rcases h with rfl | rfl | none
  · rfl
  · rw [Bool.or_true]; rfl
  · rw [none, ite_self]

theorem deliverFrame_xoff {c : Byte} {parity framing weak : Bool} {s : State} (p_ok : parity = false) (f_ok : framing = false)
    (h : flowChar s.cbm.settings s.lu.remoteHold c = .xoff) : deliverFrame c parity framing weak s = consumeXoff s := by
  subst p_ok f_ok
  unfold deliverFrame
  rw [Bool.or_false, if_neg Bool.false_ne_true, h]

theorem deliverFrame_xon {c : Byte} {parity framing weak : Bool} {s : State} (p_ok : parity = false) (f_ok : framing = false)
    (h : flowChar s.cbm.settings s.lu.remoteHold c = .xon) : deliverFrame c parity framing weak s = consumeXon s := by
  subst p_ok f_ok
  unfold deliverFrame
  rw [Bool.or_false, if_neg Bool.false_ne_true, h]

theorem consumeXon_held {s : State} (h : s.lu.remoteHold = true) :
    consumeXon s = boundary (s.withLu { s.lu with remoteHold := false, holdTimer := none }) := if_pos h

theorem consumeXon_free {s : State} (h : s.lu.remoteHold = false) : consumeXon s = s := if_neg (ne_true_of_eq_false h)

/-- An update of Qs turns no remote hold. -/
theorem updateQs_remoteHold (m : Nat) (s : State) : (updateQs m s).lu.remoteHold = s.lu.remoteHold := by
  unfold updateQs evaluateQuiet
  split
  · split <;> rfl
  · split <;> rfl

/-! ## Break candidates (R75) -/

theorem receiverBit_inCandidate {s : State} {k : Candidate} (d : Decision) (m : Nat) (h : s.lu.receiver = .candidate k) :
    receiverBit d m s = candidateBit k d m s := by
  unfold receiverBit; rw [h]

theorem breakIsNext_eq {l : LineUnit} {k : Candidate} (h : l.receiver = .candidate k) :
    breakIsNext l = (k.count + 1 == 2 * l.format.length) := by
  unfold breakIsNext; rw [h]

theorem candidateBit_space_counts {s : State} {k : Candidate} (m : Nat) (more : k.count + 1 < 2 * s.lu.format.length) :
    candidateBit k .space m s = s.withLu
      { s.lu with receiver := .candidate { k with count := k.count + 1 }, idleMark := false, idleRun := ⟨0, 15⟩ } :=
  if_neg (Nat.not_le.mpr more)

theorem candidateBit_space_breaks {s : State} {k : Candidate} (m : Nat) (last : k.count + 1 = 2 * s.lu.format.length) :
    candidateBit k .space m s = arrive (.mark .breakIn 0)
      ((s.withLu { s.lu with receiver := .brk, idleMark := false, idleRun := ⟨0, 15⟩ }).withCbm
        { s.cbm with flagsHi := s.cbm.flagsHi ||| 0x04 }) :=
  if_pos last.ge

/-- Three rows name the mark that ends a candidate as a character. -/
theorem exec_candidate_mark {s : State} {k : Candidate} {m : Fin 16} {c : Instr} (runs : s.lu.demod = true)
    (online : s.lu.lineState = .online) (inside : s.lu.receiver = .candidate k)
    (mem : c ∈ [Instr.bitDecision .mark m, .candidateCharacter m, .idleMarkDecision m]) :
    exec c s = .next (settle s (arrive (.line 0x00 k.parity k.framing k.weak)
      (idleMarkBit m.val (s.withLu { s.lu with receiver := .hunt })))) := by
  have outside : outsideFrame s.lu.receiver = true := by rw [inside]; rfl
  have candidate : s.lu.receiver.isCandidate = true := by rw [inside]; rfl
  have bit : receiverBit .mark m.val s = arrive (.line 0x00 k.parity k.framing k.weak)
      (idleMarkBit m.val (s.withLu { s.lu with receiver := .hunt })) := receiverBit_inCandidate .mark m.val inside
  rw [← bit]
  simp only [List.mem_cons, List.not_mem_nil, or_false] at mem
  rcases mem with rfl | rfl | rfl
  · exact exec_mark_outside runs online outside List.mem_cons_self
  · exact eventWhen_receives runs online candidate
  · exact exec_mark_outside runs online outside (List.mem_cons_of_mem _ List.mem_cons_self)

end Sys2Proof.Machine

namespace Sys2Proof.Proofs

open Sys2Proof Sys2Proof.Machine Sys2Proof.Claims

/-- Settles O32: HUNT, VERIFY and BREAK, each decision by the rows that name it. -/
theorem receiverOutsideFrames : Obligations.ReceiverOutsideFrames := by
  intro s m runs online counted
  have rows := fun {c} outside (mem : c ∈ [Instr.bitDecision .mark m, .idleMarkDecision m]) =>
    exec_mark_outside runs online outside mem
  have spaces : ∀ {u}, 0 < m.val → receiverBit .space m.val s = u → exec (.bitDecision .space m) s = .next (settle s u) :=
    fun pos eq => by rw [exec_bitDecision_online _ _ runs online, decisionOf_of_pos pos, eq]
  have early : ∀ {h}, s.lu.idleRun.count + 1 ≠ 10 → receiverBit .mark m.val s = s.withLu
      { s.lu with receiver := .hunt, idleMark := true, idleRun := counted } :=
    fun {h} n => (receiverBit_mark _ h).trans (idleMarkBit_counts (s := s.withLu { s.lu with receiver := .hunt }) _ n)
  have tenth : ∀ {h}, s.lu.idleRun.count = 9 → receiverBit .mark m.val s = updateQs counted.lowest (s.withLu
      { s.lu with receiver := .hunt, idleMark := true, idleRun := ⟨0, 15⟩ }) :=
    fun {h} n => (receiverBit_mark _ h).trans (idleMarkBit_tenth (s := s.withLu { s.lu with receiver := .hunt }) _ n)
  refine ⟨fun hunt => ?_, fun other => ?_, fun verify => ⟨fun pos => spaces pos ?_, fun c mem => ?_⟩,
    fun waits => ⟨fun pos => spaces pos (receiverBit_space _ waits), fun c mem n => ?_, fun c mem n => ?_⟩,
    fun brk n => ?_, fun brk n => ?_, fun other => ?_⟩
  · refine eventWhen_lands ?_ (if_pos ⟨runs, online, hunt⟩)
    rw [receiving_of_online runs online, hunt]
    rfl
  · exact eventWhen_not_received (beq_eq_false_iff_ne.mpr other)
  · rw [receiverBit_inVerify _ _ verify]
    rfl
  · rw [rows (by rw [verify]; rfl) mem, receiverBit_inVerify _ _ verify, verifyBit_mark]
  · rw [rows (outsideFrame_of_waiting waits) mem, early (h := waits) n]
  · rw [← tenth (h := waits) n]
    simp only [List.mem_cons, List.not_mem_nil, or_false] at mem
    rcases mem with rfl | rfl | rfl
    · exact rows (outsideFrame_of_waiting waits) List.mem_cons_self
    · exact rows (outsideFrame_of_waiting waits) (List.mem_cons_of_mem _ List.mem_cons_self)
    · exact eventWhen_receives runs online (tenthIdleIsNext_of_tenth waits n)
  · rw [← early (h := .inr brk) (by omega)]
    exact eventWhen_receives runs online (beq_iff_eq.mpr brk)
  · rw [← tenth (h := .inr brk) n]
    exact eventWhen_receives runs online (beq_iff_eq.mpr brk)
  · exact eventWhen_not_received (beq_eq_false_iff_ne.mpr other)

/-- Settles O33: the spaces of a candidate up to decision 2N, and the mark that ends it. -/
theorem breakCandidateDecides : Obligations.BreakCandidateDecides := by
  intro s m k runs online inside
  refine ⟨fun more => ⟨fun pos => ?_, ?_⟩, fun last pos c mem => ?_, fun early c mem => ?_, fun tenth c mem => ?_⟩
  · rw [exec_bitDecision_online _ _ runs online, decisionOf_of_pos pos, receiverBit_inCandidate _ _ inside,
      candidateBit_space_counts _ more]
  · refine eventWhen_not_received ?_
    rw [breakIsNext_eq inside]
    exact beq_eq_false_iff_ne.mpr more.ne
  · rw [← candidateBit_space_breaks 15 last]
    simp only [List.mem_cons, List.not_mem_nil, or_false] at mem
    rcases mem with rfl | rfl
    · rw [exec_bitDecision_online _ _ runs online, decisionOf_of_pos pos, receiverBit_inCandidate _ _ inside]
      rfl
    · rw [← receiverBit_inCandidate _ _ inside]
      refine eventWhen_receives runs online ?_
      rw [breakIsNext_eq inside]
      exact beq_iff_eq.mpr last
  · rw [exec_candidate_mark runs online inside mem, idleMarkBit_counts (s := s.withLu { s.lu with receiver := .hunt }) _
      (show s.lu.idleRun.count + 1 ≠ 10 by omega)]
    rfl
  · rw [exec_candidate_mark runs online inside mem,
      idleMarkBit_tenth (s := s.withLu { s.lu with receiver := .hunt }) _ tenth]
    rfl

theorem frameCollectsDecisions : FrameCollectsDecisions := by
  intro s d m r runs online inside more
  refine ⟨?_, eventWhen_not_received ?_⟩
  · rw [exec_bitDecision_online _ _ runs online, receiverBit_inFrame _ _ inside, frameBit_collects _ _ more]
  · rw [lastStopIsNext_eq inside]
    exact beq_eq_false_iff_ne.mpr more.ne

theorem frameCompletes : FrameCompletes := by
  intro s d m r runs online inside last f bits low data parity framing weak u h char flow c mem
  have step : exec c s = .next (settle s (completeFrame ⟨bits, low, r.overlap⟩ s)) := by
    rw [← frameBit_completes _ _ last, ← receiverBit_inFrame _ _ inside]
    simp only [List.mem_cons, List.not_mem_nil, or_false] at mem
    rcases mem with rfl | rfl
    · exact exec_bitDecision_online _ _ runs online
    · refine eventWhen_receives runs online ?_
      rw [lastStopIsNext_eq inside]
      exact beq_iff_eq.mpr last
  have flow_eq : flowChar h.cbm.settings h.lu.remoteHold char = flow := by
    show flowChar (updateQs low s).cbm.settings (updateQs low s).lu.remoteHold char = _
    rw [updateQs_remoteHold, show (updateQs low s).cbm.settings = s.cbm.settings by simp]
  rw [step]
  refine ⟨fun dark err => ?_, fun other => ?_⟩
  · rw [completeFrame_candidate dark err]
  · have hold_eq : h.lu.remoteHold = s.lu.remoteHold := updateQs_remoteHold low s
    have now_eq : h.env.now = s.env.now := congrArg Surroundings.now (updateQs_frame low s).2.1
    rw [completeFrame_delivers other]
    refine ⟨fun arrives => ?_, fun p_ok f_ok xoff => ?_, fun p_ok f_ok xon held => ?_, fun p_ok f_ok xon free => ?_⟩
    · rw [← flow_eq] at arrives
      rw [deliverFrame_arrives arrives]
    · rw [deliverFrame_xoff p_ok f_ok (flow_eq.trans xoff), ← now_eq]
      rfl
    · rw [deliverFrame_xon p_ok f_ok (flow_eq.trans xon), consumeXon_held (hold_eq.trans held)]
    · rw [deliverFrame_xon p_ok f_ok (flow_eq.trans xon), consumeXon_free (hold_eq.trans free)]

/-- Settles O40: the decisions before the last stop bit, and the frame at it. -/
theorem framesAreReceived : Obligations.FramesAreReceived := ⟨frameCollectsDecisions, frameCompletes⟩

end Sys2Proof.Proofs
end

section
/-! PROOFS. The formats of characters and entries, the ends of the transmitter's operations, and the tones (R44, R45, R68, R71, R72,
R78 to R84, R94, R125): O41, O42. -/

namespace Sys2Proof.Machine

open Sys2Proof Sys2Proof.Claims

/-! ## Stream entries and key events (2.8.2, 2.8.3) -/

theorem lineFlags_eq (p f w : Bool) : byteOf (bitVal p 1 + bitVal f 2 + bitVal w 4) =
    (if p then 0x01 else 0) ||| (if f then 0x02 else 0) ||| (if w then 0x04 else 0) := by
  cases p <;> cases f <;> cases w <;> rfl

theorem keyFlags_eq (k : KeyKind) : ∀ shift < 4, byteOf (k.code + 4 * shift) =
    (match k with | .press => 0x00 | .repeated => 0x01 | .release => 0x02 | .wakePress => 0x03)
      ||| (if shift % 2 = 1 then 0x04 else 0) ||| (if 2 ≤ shift then 0x08 else 0) := by
  cases k <;> decide

theorem segmentBytes_getD {image : Image} {i k : Nat} (full : image.length = 72) (segment : i < 8) (byte : k < 9) :
    (segmentBytes image i).getD k 0 = image.getD (9 * i + k) 0 := by
  have inside : k < ((List.range 9).map fun j => image.getD (9 * i + j) 0).length := by simpa using byte
  rw [segmentBytes_eq full segment, List.getD_eq_getElem _ _ inside, List.getElem_map, List.getElem_range]

/-! ## The errors of a frame and its recognition (R71, R72, R78, R79) -/

theorem hasParity_iff (f : LineFormat) : f.hasParity = true ↔ f.parity ≠ .none := bne_iff_ne

theorem parityError_of_none {f : LineFormat} {bits : List Bool} (h : requiredParity f (bits.take f.dataBits) = none) :
    parityError f bits = false := by
  unfold parityError dataBitsOf; rw [h]

theorem parityError_of_some {f : LineFormat} {bits : List Bool} {p : Bool}
    (h : requiredParity f (bits.take f.dataBits) = some p) : parityError f bits = (bits.getD f.dataBits false != p) := by
  unfold parityError dataBitsOf parityBitOf; rw [h]

theorem requiredParity_none {f : LineFormat} (h : f.parity = .none) (data : List Bool) : requiredParity f data = none := by
  unfold requiredParity; rw [h]

theorem requiredParity_even {f : LineFormat} (h : f.parity = .even) (data : List Bool) :
    requiredParity f data = some (data.countP id % 2 == 1) := by
  unfold requiredParity; rw [h]

theorem requiredParity_odd {f : LineFormat} (h : f.parity = .odd) (data : List Bool) :
    requiredParity f data = some (data.countP id % 2 == 0) := by
  unfold requiredParity; rw [h]

theorem requiredParity_mark {f : LineFormat} (h : f.parity = .mark) (data : List Bool) : requiredParity f data = some true := by
  unfold requiredParity; rw [h]

theorem requiredParity_space {f : LineFormat} (h : f.parity = .space) (data : List Bool) :
    requiredParity f data = some false := by
  unfold requiredParity; rw [h]

/-- A parity bit differs from the one that makes the count even exactly when the count with it is odd. -/
theorem bne_oddness_iff (p : Bool) (ones : Nat) : (p != (ones % 2 == 1)) = true ↔ (ones + if p then 1 else 0) % 2 = 1 := by
  cases p <;> simp
  omega

theorem bne_evenness_iff (p : Bool) (ones : Nat) : (p != (ones % 2 == 0)) = true ↔ (ones + if p then 1 else 0) % 2 = 0 := by
  cases p <;> simp
  omega

theorem framingError_iff (f : LineFormat) (bits : List Bool) : framingError f bits = true ↔
    ∃ b ∈ bits.drop (f.dataBits + if f.parity = .none then 0 else 1), b = false := by
  have skipped : (if f.hasParity then 1 else 0) = if f.parity = .none then 0 else 1 := by
    by_cases h : f.parity = .none <;> simp [hasParity_iff, h]
  unfold framingError stopBitsOf
  rw [skipped, List.any_eq_true]
  simp only [Bool.not_eq_true']

theorem flowChar_off {t : Settings} (h : t.rxFlow = false) (hold : Bool) (c : Byte) : flowChar t hold c = .none := by
  unfold flowChar; rw [h]; rfl

theorem flowChar_eq {t : Settings} (h : t.rxFlow = true) (hold : Bool) (c : Byte) : flowChar t hold c =
    if c = t.xoffChar ∧ (c ≠ t.xonChar ∨ hold = false) then .xoff
    else if c = t.xonChar ∧ (c ≠ t.xoffChar ∨ hold = true) then .xon else .none := by
  unfold flowChar
  rw [h]
  simp only [ne_eq, ← beq_iff_eq (a := c)]
  generalize (c == t.xoffChar) = xoff
  generalize (c == t.xonChar) = xon
  cases xoff <;> cases xon <;> cases hold <;> rfl

/-! ## The bits of a character (R82) -/

theorem frameBits_eq (f : LineFormat) (c : Byte) : frameBits f c =
    false :: ((List.range f.dataBits).map (fun i => c.getLsbD i) ++
      ((requiredParity f ((List.range f.dataBits).map fun i => c.getLsbD i)).toList ++ List.replicate f.stopBits true)) := by
  simp [frameBits]

theorem frameBits_data {f : LineFormat} {i : Nat} (c : Byte) (pos : 1 ≤ i) (inside : i ≤ f.dataBits) :
    (frameBits f c).getD i true = c.getLsbD (i - 1) := by
  obtain ⟨k, rfl⟩ := Nat.exists_eq_add_of_le' pos
  have short : k < ((List.range f.dataBits).map fun i => c.getLsbD i).length := by simpa using inside
  rw [frameBits_eq, List.getD_cons_succ, List.getD_append _ _ _ _ short, List.getD_eq_getElem _ _ short, List.getElem_map,
    List.getElem_range, Nat.add_sub_cancel]

/-- The bits behind the data: parity, then mark. -/
theorem frameBits_behind (f : LineFormat) (c : Byte) (k : Nat) : (frameBits f c).getD (f.dataBits + 1 + k) true =
    ((requiredParity f ((List.range f.dataBits).map fun i => c.getLsbD i)).toList ++
      List.replicate f.stopBits true).getD k true := by
  have behind : ((List.range f.dataBits).map fun i => c.getLsbD i).length ≤ f.dataBits + k := by simp
  rw [frameBits_eq, show f.dataBits + 1 + k = f.dataBits + k + 1 by omega, List.getD_cons_succ,
    List.getD_append_right _ _ _ _ behind]
  simp

theorem getD_marks (n k : Nat) : (List.replicate n true).getD k true = true := by
  rw [List.getD_eq_getElem?_getD]
  exact List.getElem?_getD_replicate_default_eq ..

theorem getD_toList_append_marks (p : Option Bool) (n : Nat) : (p.toList ++ List.replicate n true).getD 0 true = p.getD true := by
  cases p with
  | none => exact getD_marks ..
  | some => rfl

theorem getD_toList_append_marks_succ (p : Option Bool) (n k : Nat) :
    (p.toList ++ List.replicate n true).getD (k + 1) true = true := by
  cases p with
  | none => exact getD_marks ..
  | some => exact getD_marks ..

theorem sentLevel_character {s : State} {c : Byte} {rate start : Nat} {f : LineFormat}
    (op : s.lu.txOp = some (.character c rate f start)) :
    sentLevel s = some ((frameBits f c).getD ((s.env.now - start) * rate / 1000000) true) := by
  unfold sentLevel LineUnit.levelAt; rw [op]

theorem sentLevel_rest {s : State} (op : s.lu.txOp = none) : sentLevel s = s.lu.txRest.level := by
  unfold sentLevel LineUnit.levelAt; rw [op]

theorem sentLevel_breakSpace {s : State} {start : Nat} (op : s.lu.txOp = some (.breakSpace start)) :
    sentLevel s = some false := by
  unfold sentLevel LineUnit.levelAt; rw [op]

theorem sentLevel_breakTail {s : State} {start : Nat} (op : s.lu.txOp = some (.breakTail start)) :
    sentLevel s = some true := by
  unfold sentLevel LineUnit.levelAt; rw [op]

/-- The tone out is the role's tone of the level. -/
theorem toneOut_eq (s : State) : toneOut s = (sentLevel s).map s.lu.role.sendBand.tone := rfl

theorem lowBand_tone : Band.tone .low = fun mark => if mark then 1120 else 1320 := by
  funext mark; cases mark <;> rfl

theorem highBand_tone : Band.tone .high = fun mark => if mark then 2110 else 2310 := by
  funext mark; cases mark <;> rfl

end Sys2Proof.Machine

namespace Sys2Proof.Proofs

open Sys2Proof Sys2Proof.Machine Sys2Proof.Claims

theorem entryFormats : EntryFormats := by
  refine ⟨fun c p f w => ⟨rfl, lineFlags_eq p f w⟩, fun c => ⟨rfl, rfl⟩, fun n => ⟨rfl, rfl, rfl, rfl, rfl, fun m => rfl⟩,
    fun e small => ⟨rfl, keyFlags_eq e.kind e.shift small, fun v mapped => ?_, rfl⟩,
    fun image i k full segment byte => ⟨segmentBytes_length full segment, segmentBytes_getD full segment byte⟩⟩
  show e.mapped.getD 0 = v
  rw [mapped]
  rfl

theorem frameJudgement : FrameJudgement := by
  refine ⟨fun f bits _ => ⟨fun h => ?_, fun h => ?_, fun h => ?_, fun h => ?_, fun h => ?_, framingError_iff f bits⟩,
    fun b rest => rfl, rfl, fun t hold c => ⟨fun off => flowChar_off off hold c, fun on no_xoff no_xon => ?_,
      fun on xoff alone => ?_, fun on xon alone => ?_⟩⟩
  · exact parityError_of_none (requiredParity_none h _)
  · rw [parityError_of_some (requiredParity_even h _)]
    exact bne_oddness_iff _ _
  · rw [parityError_of_some (requiredParity_odd h _)]
    exact bne_evenness_iff _ _
  · rw [parityError_of_some (requiredParity_mark h _)]
    simp
  · rw [parityError_of_some (requiredParity_space h _)]
    simp
  · rw [flowChar_eq on, if_neg fun h => no_xoff h.1, if_neg fun h => no_xon h.1]
  · rw [flowChar_eq on, if_pos ⟨xoff, alone⟩]
  · rw [flowChar_eq on, if_neg, if_pos ⟨xon, alone⟩]
    rintro ⟨xoff, other | free⟩
    · exact other xon
    · rcases alone with no_xoff | held
      · exact no_xoff xoff
      · rw [held] at free
        contradiction

/-- Settles O41: the bytes written, and the judgement of the bits read. -/
theorem formatsOfCharactersAndEntries : Obligations.FormatsOfCharactersAndEntries := ⟨entryFormats, frameJudgement⟩

theorem holdTimerExpires : HoldTimerExpires := by
  refine fun s => ⟨fun start runs limited => ?_, fun idle => ?_⟩
  · exact (if_neg limited).trans (expiry_lands runs rfl)
  · by_cases unlimited : s.cbm.settings.holdLimit = 0
    · exact if_pos unlimited
    · exact (if_neg unlimited).trans (expiry_of_stopped (idle.resolve_left unlimited))

theorem transmitOperationsComplete : TransmitOperationsComplete := by
  refine fun s => ⟨fun ch rate f start op => ?_, fun start op => ?_, fun start op => ?_, fun other => ?_, fun other => ?_,
    fun other => ?_, fun f => ?_⟩
  · show execCharacterOperationComplete s = _
    unfold execCharacterOperationComplete
    rw [op]
    exact expiry_lands rfl rfl
  · show execBreakSpaceEnd s = _
    unfold execBreakSpaceEnd
    rw [op]
    exact expiry_lands rfl rfl
  · show execBreakTailComplete s = _
    unfold execBreakTailComplete
    rw [op]
    exact expiry_lands rfl rfl
  · show execCharacterOperationComplete s = _
    unfold execCharacterOperationComplete
    rcases h : s.lu.txOp with _ | (⟨ch, rate, f, start⟩ | _ | _)
    · rfl
    · exact absurd h (other ch rate f start)
    · rfl
    · rfl
  · show execBreakSpaceEnd s = _
    unfold execBreakSpaceEnd
    rcases h : s.lu.txOp with _ | (_ | start | _)
    · rfl
    · rfl
    · exact absurd h (other start)
    · rfl
  · show execBreakTailComplete s = _
    unfold execBreakTailComplete
    rcases h : s.lu.txOp with _ | (_ | _ | start)
    · rfl
    · rfl
    · rfl
    · exact absurd h (other start)
  · unfold LineFormat.length LineFormat.dataBits LineFormat.stopBits
    by_cases h : f.parity = .none <;> simp [hasParity_iff, h]

theorem tonesSentAndHeard : TonesSentAndHeard := by
  refine fun s => ⟨fun op rest => ?_, fun op rest => ?_, fun start op => sentLevel_breakSpace op,
    fun start op => sentLevel_breakTail op, fun c rate f start op => ?_, fun role => ?_, fun role => ?_,
    fun runs => if_pos runs, fun stopped => if_neg (ne_true_of_eq_false stopped), fun d => ?_⟩
  · rw [sentLevel_rest op, rest]; rfl
  · rw [sentLevel_rest op, rest]; rfl
  · intro i data ones
    have level : sentLevel s = some ((frameBits f c).getD i true) := sentLevel_character op
    have behind := frameBits_behind f c
    refine ⟨fun first => ?_, fun pos inside => ?_, fun parity => ?_, fun stop => ?_⟩
    · rw [level, first]; rfl
    · rw [level, frameBits_data c pos inside]
    · have counted : ((List.range f.dataBits).map fun k => c.getLsbD k).countP id = ones := List.countP_map
      rw [level, show i = f.dataBits + 1 + 0 from parity, behind, getD_toList_append_marks]
      unfold requiredParity
      rw [counted]
      cases f.parity <;> simp [Bool.beq_eq_decide_eq]
    · obtain ⟨k, eq⟩ := Nat.exists_eq_add_of_lt stop
      rw [level, show i = f.dataBits + 1 + (k + 1) from eq, behind, getD_toList_append_marks_succ]
  · unfold heardTone
    rw [toneOut_eq, role, ← lowBand_tone]
    exact ⟨rfl, rfl, rfl⟩
  · unfold heardTone
    rw [toneOut_eq, role, ← highBand_tone]
    exact ⟨rfl, rfl, rfl⟩
  · rw [phasePassed_eq_sum, Nat.add_sub_cancel_left]
    rfl

/-- Settles O42: the hold timer, the ends of the operations, and the tones. -/
theorem transmitOperationsEnd : Obligations.TransmitOperationsEnd :=
  ⟨holdTimerExpires, transmitOperationsComplete, tonesSentAndHeard⟩

end Sys2Proof.Proofs
end

section
/-! PROOFS. The keyboard: passes, admission and release, events, repeat, the wake pass (R112 to R124, R130): O43, O53, O54, O55. -/

namespace Sys2Proof.Machine

open Sys2Proof Sys2Proof.Claims

/-! ## The passes (R113, R114, R130) -/

theorem not_scanning {mode other : ScanMode} {s : State} (h : s.mp.resetHeld = true ∨ s.ks.scanMode = other)
    (apart : other ≠ mode) : scanning mode s = false := by
  refine Bool.eq_false_iff.mpr fun scans => ?_
  obtain ⟨free, mode_eq⟩ := scanning_iff.mp scans
  rcases h with held | other_eq
  · rw [held] at free
    contradiction
  · exact apart (other_eq.symm.trans mode_eq)

/-- The releases are handled from the first on. -/
theorem letGoAll_eq_foldl (l : List Nat) : ∀ s : State, letGoAll l s = l.foldl (fun t c => letGo c t) s := by
  induction l with
  | nil => exact fun _ => rfl
  | cons c rest ih => exact fun s => ih (letGo c s)

/-- The debounce table by the contact. -/
theorem debounceNext_eq (d : Debounce) (closed : Bool) : d.next closed =
    if closed then
      match d with
      | .opened => .closing1 | .closing1 => .closing2 | .closing2 => .down | .down => .down
      | .opening1 => .down | .opening2 => .down
    else
      match d with
      | .down => .opening1 | .opening1 => .opening2 | .opening2 => .opened
      | .opened => .opened | .closing1 => .opened | .closing2 => .opened := by
  cases closed <;> cases d <;> rfl

/-- A record paired with its key code. -/
theorem getElem?_zipWith_keyCodes {records : List KeyRecord} {c : Nat} {r : KeyRecord} (f : KeyRecord → Nat → KeyRecord)
    (full : records.length = 80) (h : records[c]? = some r) : (List.zipWith f records keyCodes)[c]? = some (f r c) := by
  obtain ⟨inside, -⟩ := List.getElem?_eq_some_iff.mp h
  have code : keyCodes[c]? = some c := List.getElem?_range (full ▸ inside)
  rw [List.getElem?_zipWith, h, code]

theorem wakeScan_of_none {closed : BitVec 80} (s : State) (h : ∀ c, c < 80 → closed.getLsbD c = false) :
    wakeScan closed s = s.withKs { s.ks with lastPass := s.env.now } := by
  have unfound : keyCodes.find? (readsClosed closed) = none :=
    List.find?_eq_none.mpr fun c mem => ne_true_of_eq_false (h c (List.mem_range.mp mem))
  unfold wakeScan
  rw [unfound]

/-- The lowest closed code wakes. -/
theorem wakeScan_of_lowest {closed : BitVec 80} {w : Nat} (s : State) (inside : w < 80) (down : closed.getLsbD w = true)
    (lowest : ∀ c, c < w → closed.getLsbD c = false) :
    wakeScan closed s = wakeBy w closed (s.withKs { s.ks with lastPass := s.env.now }) := by
  have found : keyCodes.find? (readsClosed closed) = some w :=
    List.find?_range_eq_some.mpr ⟨down, List.mem_range.mpr inside, fun c lt => by
      rw [readsClosed, lowest c lt]; rfl⟩
  unfold wakeScan
  rw [found]

/-! ## Admission and release (R115 to R118, R121) -/

theorem held_iff (d : Debounce) : d.held = true ↔ d ∈ [.down, .opening1, .opening2] := by cases d <;> decide

theorem countsHeld_iff (s : State) (later : List Nat) (code : Nat) : countsHeld s later code = true ↔
    (s.ks.records.getD code clearRecord).debounce ∈ [.down, .opening1, .opening2] ∧ code ∉ later := by
  unfold countsHeld
  rw [Bool.and_eq_true, held_iff, Bool.not_eq_true', ← Bool.not_eq_true, List.contains_iff_mem]
  rfl

/-- The phantom test: three further corners of a rectangle. -/
theorem isPhantom_iff (s : State) (later : List Nat) (c : Nat) : isPhantom s later c = true ↔
    ∃ r2 c2, r2 < 8 ∧ c2 < 10 ∧ r2 ≠ c / 10 ∧ c2 ≠ c % 10 ∧ countsHeld s later (c / 10 * 10 + c2) = true ∧
      countsHeld s later (r2 * 10 + c % 10) = true ∧ countsHeld s later (r2 * 10 + c2) = true := by
  unfold isPhantom keyCode
  simp only [List.any_eq_true, List.mem_range, Bool.and_eq_true, bne_iff_ne]
  constructor
  · rintro ⟨r2, row, ⟨other_row, column_held⟩, c2, column, ⟨other_column, row_held⟩, corner⟩
    exact ⟨r2, c2, row, column, other_row, other_column, row_held, column_held, corner⟩
  · rintro ⟨r2, c2, row, column, other_row, other_column, row_held, column_held, corner⟩
    exact ⟨r2, row, ⟨other_row, column_held⟩, c2, column, ⟨other_column, row_held⟩, corner⟩

theorem isModifier_of_lt {c : Nat} (h : c < 78) : isModifier c = false :=
  (isModifier_eq_false_iff c).mpr ⟨h.ne, (h.trans (by decide)).ne⟩

theorem admitKey_phantom {s : State} {later : List Nat} {c : Nat} (h : isPhantom s later c = true) :
    admitKey later c s = setClass c .suppressed s := if_pos h

theorem admitKey_modifier {s : State} {later : List Nat} {c : Nat} (h : isPhantom s later c = false)
    (modifier : isModifier c = true) :
    admitKey later c s = makeEvent c .press (markModifier c true (setClass c .admitted s)) := by
  unfold admitKey
  rw [if_neg (ne_true_of_eq_false h), if_pos modifier]

theorem admitKey_fifth {s : State} {later : List Nat} {c : Nat} (h : isPhantom s later c = false)
    (plain : isModifier c = false) (four : 4 ≤ s.ks.held.length) : admitKey later c s = setClass c .suppressed s := by
  unfold admitKey
  rw [if_neg (ne_true_of_eq_false h), if_neg (ne_true_of_eq_false plain), if_pos four]

theorem admitKey_held {s : State} {later : List Nat} {c : Nat} (h : isPhantom s later c = false)
    (plain : isModifier c = false) (room : s.ks.held.length < 4) : admitKey later c s = makeEvent c .press
      (startRepeat c ((setClass c .admitted s).withKs
        { (setClass c .admitted s).ks with held := (setClass c .admitted s).ks.held ++ [⟨c, none⟩] })) := by
  unfold admitKey
  rw [if_neg (ne_true_of_eq_false h), if_neg (ne_true_of_eq_false plain), if_neg (Nat.not_le.mpr room)]

theorem letGo_suppressed {s : State} {c : Nat} (h : (recordAt s c).cls = .suppressed) : letGo c s = s := by
  unfold letGo; rw [h]

theorem letGo_modifier {s : State} {c : Nat} (h : (recordAt s c).cls = .admitted) (modifier : isModifier c = true) :
    letGo c s = makeEvent c .release (markModifier c false s) := by
  unfold letGo
  rw [h]
  exact if_pos modifier

theorem letGo_key {s : State} {c : Nat} (h : (recordAt s c).cls = .admitted) (plain : isModifier c = false) :
    letGo c s = makeEvent c .release (s.withKs { s.ks with
      held := s.ks.held.filter (fun h => h.code != c)
      rep := stopRepeat s.ks.rep c }) := by
  unfold letGo
  rw [h]
  exact if_neg (ne_true_of_eq_false plain)

/-! ## Events (R119, R120) -/

/-- Where an event's value comes from. -/
theorem sourceOf_eq (s : State) (c : Nat) (k : KeyKind) : sourceOf s c k =
    if c = 78 then .fixed 0xF0
    else if c = 79 then .fixed 0xF1
    else if k = .release then
      if (s.ks.records.getD c clearRecord).press = .lost then .fixed 0xFF else .fromPress
    else .lookup := by
  unfold sourceOf
  by_cases shift : c = 78
  · rw [if_pos shift, shift]
    rfl
  rw [if_neg shift]
  by_cases ctrl : c = 79
  · rw [if_pos ctrl, ctrl]
    rfl
  rw [if_neg ctrl, if_neg (ne_true_of_eq_false ((isModifier_eq_false_iff c).mpr ⟨shift, ctrl⟩))]
  cases k with
  | release =>
    rw [if_pos rfl]
    show (match (s.ks.records.getD c clearRecord).press with
      | .lost => ValueSource.fixed 0xFF
      | _ => .fromPress) = _
    cases (s.ks.records.getD c clearRecord).press <;> rfl
  | press | repeated | wakePress => rfl

/-- The press state is given to the presses of keys that are no modifiers. -/
theorem markPress_eq (e : KeyEvent) (p : PressState) (s : State) : markPress e p s =
    if (e.kind = .press ∨ e.kind = .wakePress) ∧ e.code ≠ 78 ∧ e.code ≠ 79 then setPress e.code p s else s := by
  unfold markPress
  refine if_congr ?_ rfl rfl
  rw [Bool.and_eq_true, pressesCode_self_iff, Bool.not_eq_true', isModifier_eq_false_iff]

theorem offer_of_room {e : KeyEvent} {s : State} (room : s.ks.fifo.length < 8) : offer e s =
    tryProcess (markPress e .pending (s.withKs { s.ks with
      fifo := s.ks.fifo ++ [{ e with lostBefore := s.ks.lostCount }], lostCount := 0 })) := if_pos room

theorem offer_of_full {e : KeyEvent} {s : State} (full : 8 ≤ s.ks.fifo.length) : offer e s =
    markPress e .lost ((s.withKs { s.ks with
      lostCount := if s.ks.lostCount < 255 then s.ks.lostCount + 1 else s.ks.lostCount }).withCbm
        { s.cbm with flagsLo := s.cbm.flagsLo ||| 0x20 }) := if_neg (Nat.not_lt.mpr full)

/-! ## Processing (R123, R124) -/

theorem beginProcessing_lookup {s : State} {e : KeyEvent} {rest : List KeyEvent} (head : s.ks.fifo = e :: rest)
    (source : e.source = .lookup) : beginProcessing s = s.withKs { s.ks with proc := .lookupWait } := by
  unfold beginProcessing
  rw [head]
  dsimp only
  rw [source]

theorem beginProcessing_fixed {s : State} {e : KeyEvent} {rest : List KeyEvent} {v : Byte} (head : s.ks.fifo = e :: rest)
    (source : e.source = .fixed v) : beginProcessing s = beginDeposit v s := by
  unfold beginProcessing
  rw [head]
  dsimp only
  rw [source]

theorem beginProcessing_fromPress {s : State} {e : KeyEvent} {rest : List KeyEvent} (head : s.ks.fifo = e :: rest)
    (source : e.source = .fromPress) : beginProcessing s = beginDeposit (recordAt s e.code).value s := by
  unfold beginProcessing
  rw [head]
  dsimp only
  rw [source]

theorem keyFull_iff {s : State} {g : Geometry} (set : s.cbm.geometry = some g) :
    keyFull s = true ↔ (s.ks.producer + 1) % g.keyCap.toNat = s.ks.consumerCopy := by
  unfold keyFull ringNext
  rw [beq_iff_eq, geo_of_geometry set]

theorem tryProcess_begins {s : State} {g : Geometry} {e : KeyEvent} {rest : List KeyEvent} (set : s.cbm.geometry = some g)
    (head : s.ks.fifo = e :: rest) (idle : s.ks.proc = .none)
    (room : (s.ks.producer + 1) % g.keyCap.toNat ≠ s.ks.consumerCopy) : tryProcess s = beginProcessing s := by
  have not_full : keyFull s = false := Bool.eq_false_iff.mpr fun full => room ((keyFull_iff set).mp full)
  refine if_pos ?_
  rw [ringsSet_of_geometry set, head, idle, not_full]
  rfl

theorem tryProcess_waits {s : State} (h : s.cbm.geometry = none ∨ s.ks.fifo = [] ∨ s.ks.proc ≠ .none ∨
    ∃ g, s.cbm.geometry = some g ∧ (s.ks.producer + 1) % g.keyCap.toNat = s.ks.consumerCopy) : tryProcess s = s := by
  refine if_neg ?_
  rcases h with unset | empty | busy | ⟨g, set, full⟩
  · simp [ringsSet_of_unset unset]
  · simp [empty]
  · simp [busy]
  · simp [(keyFull_iff set).mpr full]

/-! ## Auto-repeat (R121, R122) -/

theorem repeats_iff (v : Byte) : repeats v = true ↔ v.toNat ≤ 0x7F ∨ v = 0x82 := by
  unfold repeats
  rw [Bool.or_eq_true, decide_eq_true_iff, beq_iff_eq]

theorem expireRepeat_not_down {t : RepeatTimer} {s : State} (h : (recordAt s t.code).debounce ≠ .down) :
    expireRepeat t s = restartRepeat t s := by
  unfold expireRepeat
  cases d : (recordAt s t.code).debounce with
  | down => exact absurd d h
  | opened | closing1 | closing2 | opening1 | opening2 => rfl

theorem expireRepeat_unknown {t : RepeatTimer} {s : State} (down : (recordAt s t.code).debounce = .down)
    (unknown : heldValue s.ks.held t.code = none) : expireRepeat t s = restartRepeat t s := by
  unfold expireRepeat; rw [down, unknown]

theorem expireRepeat_value {t : RepeatTimer} {s : State} {v : Byte} (down : (recordAt s t.code).debounce = .down)
    (known : heldValue s.ks.held t.code = some v) : expireRepeat t s =
      if repeats v then makeEvent t.code .repeated (restartRepeat t s) else s.withKs { s.ks with rep := none } := by
  unfold expireRepeat; rw [down, known]

end Sys2Proof.Machine

namespace Sys2Proof.Proofs

open Sys2Proof Sys2Proof.Machine Sys2Proof.Claims

/-- Settles O43: a pass with nothing closed, the waking key's pass, and the records behind it. -/
theorem wakePassWakes : Obligations.WakePassWakes := by
  intro s closed u passed
  refine ⟨fun off => eventWhen_of_not_ready (not_scanning off (by decide)),
    fun free wake => ⟨fun opened => eventWhen_lands (scanning_iff.mpr ⟨free, wake⟩) (wakeScan_of_none _ opened),
      fun w inside down lowest => ?_⟩, fun rs w c r full found => getElem?_zipWith_keyCodes _ full found⟩
  refine eventWhen_lands (scanning_iff.mpr ⟨free, wake⟩) ((wakeScan_of_lowest _ inside down lowest).trans ?_)
  refine congrArg (makeEvent w .wakePress) ?_
  by_cases shift : w = 78
  · subst shift
    rfl
  by_cases ctrl : w = 79
  · subst ctrl
    rfl
  rw [if_neg shift, if_neg ctrl]
  exact if_neg (ne_true_of_eq_false ((isModifier_eq_false_iff w).mpr ⟨shift, ctrl⟩))

theorem scanPassDebounces : ScanPassDebounces := by
  refine ⟨fun s closed free matrix full => ?_, fun c rest s => rfl, fun s => rfl, fun rs closed c r full found => ?_,
    fun s closed off => eventWhen_of_not_ready (not_scanning off (by decide))⟩
  · refine eventWhen_lands (scanning_iff.mpr ⟨free, matrix⟩) ?_
    show admitAll _ (letGoAll _ _) = _
    rw [letGoAll_eq_foldl]
    rfl
  · refine (getElem?_zipWith_keyCodes _ full found).trans ?_
    rw [debounceNext_eq]
    rfl

theorem repeatTimerExpires : RepeatTimerExpires := by
  intro s
  have running : ∀ {t : RepeatTimer}, s.ks.rep = some t →
      exec .repeatTimerExpiry s = expiry (some t.start) (t.limit * 50000) (expireRepeat t) s := fun {t} runs => by
    show execRepeatTimerExpiry s = _
    unfold execRepeatTimerExpiry
    rw [runs]
  refine ⟨fun stopped => ?_, ?_⟩
  · show execRepeatTimerExpiry s = _
    unfold execRepeatTimerExpiry
    rw [stopped]
  intro c start limit runs u restarted down value
  have by_value := fun {v : Byte} (is_down : down) (known : value = some v) =>
    expireRepeat_value (t := ⟨c, start, limit⟩) (s := u) is_down known
  refine ⟨fun up => ?_, fun is_down unknown => ?_, fun v is_down known rep => ?_, fun v is_down known high other => ?_⟩
  · rw [running runs]
    exact expiry_lands rfl (expireRepeat_not_down (s := u) up)
  · rw [running runs]
    exact expiry_lands rfl (expireRepeat_unknown (s := u) is_down unknown)
  · rw [running runs]
    exact expiry_lands rfl ((by_value is_down known).trans (if_pos ((repeats_iff v).mpr rep)))
  · rw [running runs]
    refine expiry_lands rfl ((by_value is_down known).trans (if_neg fun rep => ?_))
    rcases (repeats_iff v).mp rep with low | feed
    · omega
    · exact other feed

/-- Settles O53: the pass of the matrix, and the repeat timer. -/
theorem keysArePolled : Obligations.KeysArePolled := ⟨scanPassDebounces, repeatTimerExpires⟩

theorem keyAdmission : KeyAdmission := by
  intro later c s inside heldAt phantom classed
  have phantom_iff : isPhantom s later c = true ↔ phantom := by
    rw [isPhantom_iff]
    simp only [countsHeld_iff]
    rfl
  have admitted_eq : classed .admitted = setClass c .admitted s := rfl
  have real : ¬phantom → isPhantom s later c = false := fun no => Bool.eq_false_iff.mpr fun yes => no (phantom_iff.mp yes)
  refine ⟨fun yes => admitKey_phantom (phantom_iff.mpr yes), fun no shift => ?_, fun no ctrl => ?_,
    fun no plain four => admitKey_fifth (real no) (isModifier_of_lt plain) four,
    fun no plain room => admitKey_held (real no) (isModifier_of_lt plain) room⟩
  · rw [admitted_eq, admitKey_modifier (real no) (by rw [shift]; rfl), shift]
    rfl
  · rw [admitted_eq, admitKey_modifier (real no) (by rw [ctrl]; rfl), ctrl]
    rfl

theorem keyRelease : KeyRelease := by
  intro c s r
  refine ⟨letGo_suppressed, fun admitted shift => ?_, fun admitted ctrl => ?_,
    fun admitted no_shift no_ctrl => letGo_key admitted ((isModifier_eq_false_iff c).mpr ⟨no_shift, no_ctrl⟩)⟩
  · rw [letGo_modifier admitted (by rw [shift]; rfl), shift]
    rfl
  · rw [letGo_modifier admitted (by rw [ctrl]; rfl), ctrl]
    rfl

/-- Settles O54: the phantom test and the classes of a press, and the release by its class. -/
theorem keysAreAdmittedAndReleased : Obligations.KeysAreAdmittedAndReleased := ⟨keyAdmission, keyRelease⟩

theorem keyEventOffered : KeyEventOffered := by
  intro c k s shift source pressed
  have source_eq : sourceOf s c k = source := sourceOf_eq s c k
  refine ⟨fun room => ?_, fun full => ?_⟩
  · rw [makeEvent, offer_of_room room, markPress_eq, source_eq]
    rfl
  · rw [makeEvent, offer_of_full full, markPress_eq]
    rfl

theorem keyProcessingBegins : KeyProcessingBegins := by
  refine ⟨fun s g e rest set head idle room => ?_, fun s waits => tryProcess_waits waits⟩
  rw [tryProcess_begins set head idle room]
  exact ⟨beginProcessing_lookup head, fun v fixed => (beginProcessing_fixed head fixed).trans (beginDeposit_cons v head),
    fun press => (beginProcessing_fromPress head press).trans (beginDeposit_cons _ head)⟩

/-- Settles O55: the event offered to the FIFO, and the processing of its head. -/
theorem keyEventsAreProcessed : Obligations.KeyEventsAreProcessed := ⟨keyEventOffered, keyProcessingBegins⟩

end Sys2Proof.Proofs
end

section
/-! PROOFS. The printer between its rows: the step and its gate, the start of a row and its plan point, the cache the engine needs,
the row end (R136, R140 to R149, R157, R168 to R170, R175, R180 to R184): O45 to O49. -/

namespace Sys2Proof.Machine

open Sys2Proof Sys2Proof.Claims

/-! ## The step gate (R180 to R184) -/

theorem gateInForce_iff (s : State) : gateInForce s = true ↔
    (s.cbm.settings.stepGate = .always ∧ s.lu.lineState = .online) ∨
      (s.cbm.settings.stepGate = .quiet ∧ s.lu.lineState = .online ∧ s.lu.quiet = true) := by
  unfold gateInForce
  cases gate : s.cbm.settings.stepGate <;> simp

theorem insideFrame_eq_false_iff (r : Receiver) : r.insideFrame = false ↔ ∀ record, r ≠ .frame record := by
  cases r <;> simp [Receiver.insideFrame]

/-- An attempt allows the step when the gate, if it is in force, finds the receiver outside a frame with the idle-mark indicator
set. -/
theorem attemptAllows_iff (s : State) : attemptAllows s = true ↔
    (gateInForce s = true → (∀ r, s.lu.receiver ≠ .frame r) ∧ s.lu.idleMark = true) := by
  unfold attemptAllows
  rw [Bool.or_eq_true, Bool.and_eq_true, Bool.not_eq_true', Bool.not_eq_true', insideFrame_eq_false_iff]
  cases gateInForce s <;> simp

theorem requestStep_begins {s : State} (h : attemptAllows s = true) : requestStep s = beginStep s := if_pos h

theorem requestStep_waits {s : State} (h : attemptAllows s = false) : requestStep s =
    (s.withPs { s.ps with engine := .stepWait }).withPd
      { s.pd with stepState := .waiting, gateWait := some s.env.now } := if_neg (ne_true_of_eq_false h)

theorem markOverlap_eq (l : LineUnit) : markOverlap l = match l.receiver with
    | .frame r => { l with receiver := .frame { r with overlap := true } }
    | _ => l := rfl

/-! ## Supply (R169, R170) -/

theorem supplyBelow_iff (n : Nat) (s : State) : supplyBelow n s = true ↔ ∃ v, s.sm.supply = some v ∧ v < n := by
  unfold supplyBelow
  cases s.sm.supply <;> simp

theorem supplyBelow_of_low {n v : Nat} {s : State} (reading : s.sm.supply = some v) (low : v < n) : supplyBelow n s = true :=
  (supplyBelow_iff n s).mpr ⟨v, reading, low⟩

theorem supplyBelow_of_enough {n v : Nat} {s : State} (reading : s.sm.supply = some v) (enough : n ≤ v) :
    supplyBelow n s = false := by
  unfold supplyBelow
  rw [reading]
  exact decide_eq_false (Nat.not_lt.mpr enough)

theorem takeReading_ps (s : State) : (takeReading s).ps = s.ps := by simp

/-! ## The plan point (R143, R147, R149, R157) -/

theorem judgeHistory_eq (r : RowRecord) (s : State) : judgeHistory r s = match r.phaseStarted, r.decision with
    | true, some d => d
    | _, _ => match s.ps.history with
      | some h => if s.env.now - h.time ≤ 50000 then some h.image else none
      | none => none := by
  have aged : (match s.ps.history with
      | none => none
      | some h => if 50000 < s.env.now - h.time then none else some h.image : HistoryImage) =
      match s.ps.history with
      | some h => if s.env.now - h.time ≤ 50000 then some h.image else none
      | none => none := by
    cases s.ps.history with
    | none => rfl
    | some h =>
      by_cases old : 50000 < s.env.now - h.time
      · exact (if_pos old).trans (if_neg (Nat.not_le.mpr old)).symm
      · exact (if_neg old).trans (if_pos (Nat.not_lt.mp old)).symm
  unfold judgeHistory
  rcases r.phaseStarted with _ | _ <;> rcases r.decision with _ | d
  · exact aged
  · exact aged
  · exact aged
  · rfl

theorem planPoint_held {s : State} {r : RowRecord} (row : s.ps.row = some r) (held : s.ps.holdRequest = true) :
    planPoint s = enterHeld .inRow s := by
  unfold planPoint
  rw [row]
  exact if_pos held

/-- The row record with its history decision. -/
def decidedRow (r : RowRecord) (s : State) : RowRecord := { r with decision := some (judgeHistory r s) }

theorem planPoint_empty {s : State} {r : RowRecord} (row : s.ps.row = some r) (free : s.ps.holdRequest = false)
    (empty : (makePlan s (decidedRow r s) (judgeHistory r s)).phases = []) : planPoint s =
      requestStep ((s.withPs { s.ps with row := some (decidedRow r s) }).withSp
        { s.sp with plan := some (makePlan s (decidedRow r s) (judgeHistory r s)) }) := by
  unfold planPoint
  rw [row]
  refine (if_neg (ne_true_of_eq_false free)).trans ?_
  unfold decidedRow at empty
  dsimp only
  rw [empty]
  rfl

theorem planPoint_burns {s : State} {r : RowRecord} (row : s.ps.row = some r) (free : s.ps.holdRequest = false)
    (phases : (makePlan s (decidedRow r s) (judgeHistory r s)).phases ≠ []) : planPoint s =
      startPhase (makePlan s (decidedRow r s) (judgeHistory r s)) (decidedRow r s)
        (s.withPs { s.ps with row := some (decidedRow r s), engine := .burn }) := by
  unfold planPoint
  rw [row]
  refine (if_neg (ne_true_of_eq_false free)).trans ?_
  unfold decidedRow at phases
  dsimp only
  split
  · contradiction
  · rfl

/-! ## Rows (R142 to R145, R170, R175) -/

theorem startLatchRow_feed {s : State} {l : Latch} (latch : s.ps.latch = some l) (kind : l.kind = .feed) :
    startLatchRow s = startFeedRow .latchFeed s := by
  unfold startLatchRow
  rw [latch]
  dsimp only
  rw [kind]

theorem startLatchRow_burns {s : State} {l : Latch} (latch : s.ps.latch = some l) (kind : l.kind ≠ .feed) :
    startLatchRow s = startBurnRow l.darkness s := by
  unfold startLatchRow
  rw [latch]
  dsimp only
  cases h : l.kind with
  | feed => exact absurd h kind
  | dots | again => rfl

theorem newRow_eq (d : Option Nat) (t : Settings) : newRow d t =
    { darkness := (match d with | some n => n | none => t.darkness)
      ratio := t.history, warn := t.warnTemp, stop := t.stopTemp
      burned := [], decision := none, phaseStarted := false, batteryAtStart := false } := by
  cases d <;> rfl

theorem warnCheck_paces {s : State} {r : RowRecord} (row : s.ps.row = some r) (hot : s.hotAt r.warn = true) :
    warnCheck s = enterCoolPace s := by
  unfold warnCheck
  rw [row]
  exact if_pos hot

theorem warnCheck_passes {s : State} {r : RowRecord} (row : s.ps.row = some r) (cool : s.hotAt r.warn = false) :
    warnCheck s = planPoint s := by
  unfold warnCheck
  rw [row]
  exact if_neg (ne_true_of_eq_false cool)

/-- The state of a DOTS or REPEAT row at its first reading. -/
def rowRead (darkness : Option Nat) (s : State) : State :=
  takeReading (s.withPs { s.ps with rowKind := some .burning, row := some (newRow darkness s.cbm.settings) })

theorem startBurnRow_eq (darkness : Option Nat) (s : State) : startBurnRow darkness s =
    if supplyBelow 44 (rowRead darkness s) then enterBatteryHold true (rowRead darkness s)
    else warnCheck (rowRead darkness s) := rfl

theorem rowRead_row (darkness : Option Nat) (s : State) :
    (rowRead darkness s).ps.row = some (newRow darkness s.cbm.settings) :=
  congrArg PrintSequencer.row (takeReading_ps (s.withPs
    { s.ps with rowKind := some .burning, row := some (newRow darkness s.cbm.settings) }))

/-- A battery hold keeps in the row whether it was entered at the row's start. -/
theorem enterBatteryHold_of_row {s : State} {r : RowRecord} (row : s.ps.row = some r) (atStart : Bool) :
    enterBatteryHold atStart s = cancelEffect ((s.withPs { s.ps with
      engine := .batteryHold, row := some { r with batteryAtStart := atStart } }).withSm
        { s.sm with readingTimer := some s.env.now }) := by
  unfold enterBatteryHold
  rw [row]
  rfl

/-! ## The cache the engine needs (R136, R140) -/

theorem canFetch_iff_of_geometry (s : State) : canFetch s = true ↔
    (∃ g, s.cbm.geometry = some g ∧ s.ps.woundBack = false ∧
      ringDiff g.pqCap.toNat s.ps.fetchIndex s.ps.consumer < ringDiff g.pqCap.toNat s.cbm.pqProd s.ps.consumer) ∧
    s.cbm.standby = false ∧ s.ps.cache = .empty ∧ s.ps.engine ≠ .errorStop ∧ s.ps.cancel = none := by
  rw [canFetch_iff]
  cases rings : s.cbm.geometry with
  | none => simp [ringsSet_of_unset rings]
  | some g =>
    rw [geo_of_geometry rings]
    simp only [ringsSet_of_geometry rings, Option.some.injEq, exists_eq_left', true_and]
    tauto

theorem needCache_fetches {s : State} (cache : s.ps.cache = .empty) (fetch : canFetch s = true) :
    needCache s = s.withPs { s.ps with
      engine := .waitCache
      cache := .fetching s.ps.fetchIndex []
      fetchIndex := (s.ps.fetchIndex + 1) % s.geo Geometry.pqCap } := by
  unfold needCache
  rw [cache]
  exact if_pos fetch

theorem needCache_idles {s : State} (cache : s.ps.cache = .empty) (fetch : canFetch s = false) :
    needCache s = s.withPs { s.ps with engine := .idle } := by
  unfold needCache
  rw [cache]
  exact if_neg (ne_true_of_eq_false fetch)

theorem needCache_fetching {s : State} {p : Nat} {bytes : List Byte} (cache : s.ps.cache = .fetching p bytes) :
    needCache s = s.withPs { s.ps with engine := .waitCache } := by
  unfold needCache; rw [cache]; rfl

theorem needCache_loading {s : State} {p k : Nat} {d : Descriptor} {image : Image} (cache : s.ps.cache = .loading p d image k) :
    needCache s = s.withPs { s.ps with engine := .waitCache } := by
  unfold needCache; rw [cache]; rfl

theorem needCache_bad {s : State} {p : Nat} (cache : s.ps.cache = .bad p) : needCache s =
    (s.withPs { s.ps with engine := .errorStop, cache := .empty, completion := s.ps.completion ++ [⟨p, .badDesc⟩] }).withCbm
      { s.cbm with flagsLo := s.cbm.flagsLo ||| 0x80 } := by
  unfold needCache; rw [cache]; rfl

theorem needCache_ready {s : State} {p : Nat} {d : Descriptor} {image : Image} (cache : s.ps.cache = .ready p d image) :
    needCache s = startLatchRow (transfer p d image s) := by
  unfold needCache; rw [cache]

theorem fetchWork_idle {s : State} (fetch : canFetch s = false) : fetchWork s = s := if_neg (ne_true_of_eq_false fetch)

theorem fetchWork_fetches {s : State} (fetch : canFetch s = true) : fetchWork s = s.withPs { s.ps with
    engine := if s.ps.engine = .idle then .waitCache else s.ps.engine
    cache := .fetching s.ps.fetchIndex []
    fetchIndex := (s.ps.fetchIndex + 1) % s.geo Geometry.pqCap } := by
  unfold fetchWork
  rw [if_pos fetch]
  split <;> rfl

theorem nextRow_latch {s : State} (latch : s.ps.latch.isSome = true) : nextRow s = startLatchRow s := by
  obtain ⟨l, some⟩ := Option.isSome_iff_exists.mp latch
  unfold nextRow
  rw [some]

theorem nextRow_feed {s : State} (latch : s.ps.latch = none) (feeds : 0 < s.ps.localFeeds) : nextRow s = startLocalFeed s := by
  unfold nextRow
  rw [latch]
  exact if_pos feeds

theorem nextRow_cache {s : State} (latch : s.ps.latch = none) (feeds : s.ps.localFeeds = 0) : nextRow s = needCache s := by
  unfold nextRow
  rw [latch]
  exact if_neg (by omega)

/-! ## The row end (R141, R147) -/

theorem rowEndHistory_eq (s : State) :
    rowEndHistory s = if s.ps.rowKind = some .burning then some ⟨s.ps.latchImage, s.env.now⟩ else none := by
  unfold rowEndHistory
  rcases s.ps.rowKind with _ | (_ | _ | _) <;> rfl

/-- A row end's history, plan and row; a local feed row leaves the latch, another counts it down or completes it. -/
theorem closeRow_eq (s : State) : closeRow s = (s.withPs (match s.ps.rowKind, s.ps.latch with
    | some .localFeed, l => { s.ps with history := rowEndHistory s, row := none, rowKind := none, latch := l }
    | _, none => { s.ps with history := rowEndHistory s, row := none, rowKind := none }
    | _, some l =>
      if l.remaining ≤ 1 then { s.ps with
        history := rowEndHistory s, row := none, rowKind := none, latch := none
        completion := s.ps.completion ++ [⟨l.position, .done⟩] }
      else { s.ps with
        history := rowEndHistory s, row := none, rowKind := none
        latch := some { l with remaining := l.remaining - 1 } })).withSp { s.sp with plan := none } := by
  unfold closeRow
  cases latch : s.ps.latch with
  | none =>
    rcases s.ps.rowKind with _ | (_ | _ | _)
    · rfl
    · rfl
    · rfl
    · rw [← latch]
      rfl
  | some l =>
    rcases s.ps.rowKind with _ | (_ | _ | _)
    · dsimp only
      split <;> rfl
    · dsimp only
      split <;> rfl
    · dsimp only
      split <;> rfl
    · rw [← latch]
      rfl

/-- Closing a row leaves the requests that wait for its end. -/
theorem closeRow_requests (s : State) : (closeRow s).ps.cancel = s.ps.cancel ∧
    (closeRow s).ps.holdRequest = s.ps.holdRequest ∧ (closeRow s).ps.localFeeds = s.ps.localFeeds := by
  unfold closeRow
  rcases s.ps.rowKind with _ | (_ | _ | _) <;> rcases s.ps.latch with _ | l
  all_goals dsimp only
  case none.some | some.burning.some | some.latchFeed.some => split <;> exact ⟨rfl, rfl, rfl⟩
  all_goals exact ⟨rfl, rfl, rfl⟩

/-- Without a pending cancel the engine only enters HELD. -/
theorem enterHeld_of_no_cancel {s : State} (point : HeldPoint) (cancel : s.ps.cancel = none) :
    enterHeld point s = s.withPs { s.ps with engine := .held, heldPoint := point } :=
  cancelEffect_of_none (s := setEngine .held (s.withPs { s.ps with heldPoint := point })) cancel

theorem rowEnd_cancels {s : State} (cancel : s.ps.cancel.isSome = true) : rowEnd s = cancelEffect (closeRow s) := by
  obtain ⟨c, request⟩ := Option.isSome_iff_exists.mp cancel
  unfold rowEnd
  dsimp only
  rw [(closeRow_requests s).1, request]

theorem rowEnd_holds {s : State} (cancel : s.ps.cancel = none) (hold : s.ps.holdRequest = true) : rowEnd s =
    (closeRow s).withPs { (closeRow s).ps with engine := .held, heldPoint := .betweenRows } := by
  obtain ⟨cancel_eq, hold_eq, -⟩ := closeRow_requests s
  refine Eq.trans ?_ (enterHeld_of_no_cancel .betweenRows (cancel_eq.trans cancel))
  unfold rowEnd
  dsimp only
  rw [cancel_eq, cancel, hold_eq]
  exact if_pos hold

theorem rowEnd_goes_on {s : State} (cancel : s.ps.cancel = none) (hold : s.ps.holdRequest = false) :
    rowEnd s = nextRow (closeRow s) := by
  obtain ⟨cancel_eq, hold_eq, -⟩ := closeRow_requests s
  unfold rowEnd
  dsimp only
  rw [cancel_eq, cancel, hold_eq]
  exact if_neg (ne_true_of_eq_false hold)

end Sys2Proof.Machine

namespace Sys2Proof.Proofs

open Sys2Proof Sys2Proof.Machine Sys2Proof.Claims

/-- Settles O45: a fetch's conditions, what the cache brings, and the operations made of these. -/
theorem engineNeedsTheCache : Obligations.EngineNeedsTheCache := by
  refine fun s => ⟨canFetch_iff_of_geometry s, needCache_fetches, needCache_idles, fun p bytes => needCache_fetching,
    fun p d image k => needCache_loading, fun p => needCache_bad, fun p d image cache => ?_, fetchWork_idle, fetchWork_fetches,
    fun h => if_pos h, fun not_idle not_waiting => if_neg fun h => h.elim not_idle not_waiting, nextRow_latch, nextRow_feed, nextRow_cache,
    rfl⟩
  rw [needCache_ready cache]
  rfl

/-- Settles O46: the feed row's step, and the checks of a row that burns. -/
theorem rowStarts : Obligations.RowStarts := by
  intro s l latch
  refine ⟨startLatchRow_feed latch, fun kind => ?_⟩
  rw [startLatchRow_burns latch kind, startBurnRow_eq]
  intro r u
  have formed : newRow l.darkness s.cbm.settings = r := newRow_eq _ _
  have read : rowRead l.darkness s = u := by rw [rowRead, formed]
  have row : u.ps.row = some r := by rw [← read, ← formed, rowRead_row]
  have now : u.env.now = s.env.now := by simp [u]
  rw [read, ← now]
  refine ⟨fun v reading low => ?_, fun v reading enough hot => ?_, fun v reading enough cool => ?_⟩
  · rw [if_pos (supplyBelow_of_low reading low)]
    exact enterBatteryHold_of_row row true
  · rw [if_neg (ne_true_of_eq_false (supplyBelow_of_enough reading enough))]
    exact warnCheck_paces row hot
  · rw [if_neg (ne_true_of_eq_false (supplyBelow_of_enough reading enough))]
    exact warnCheck_passes row cool

/-- Settles O47: a held plan point, an empty plan, and the first phase. -/
theorem planPoint : Obligations.PlanPoint := by
  intro s r row
  refine ⟨fun held => planPoint_held row held, fun free => ?_⟩
  intro decision
  have decision_eq : decision = judgeHistory r s := (judgeHistory_eq r s).symm
  clear_value decision
  subst decision_eq
  exact ⟨fun empty => planPoint_empty row free empty, fun phases => planPoint_burns row free phases⟩

/-- Settles O48: the gate, the step it allows, and the step forced through it. -/
theorem stepGateAndForcedStep : Obligations.StepGateAndForcedStep := by
  intro s inForce outside
  have allows : attemptAllows s = true ↔ (inForce → outside) := by rw [attemptAllows_iff, gateInForce_iff]
  refine ⟨allows, fun free => requestStep_begins (allows.mpr free), fun force inside => requestStep_waits ?_, rfl,
    fun start runs => expiry_lands runs rfl, fun stopped => expiry_of_stopped stopped, beq_iff_eq⟩
  exact Bool.eq_false_iff.mpr fun yes => inside (allows.mp yes force)

/-- Settles O49: the row closed at the step's end, and what follows it. -/
theorem stepCompletesTheRow : Obligations.StepCompletesTheRow := by
  refine fun s => ⟨fun stopped => expiry_of_stopped stopped, fun start runs => ?_⟩
  intro u history closed
  have closed_eq : closeRow u = closed := by
    rw [closeRow_eq, rowEndHistory_eq]
    rfl
  have feeds_eq : closed.ps.localFeeds = s.ps.localFeeds := closed_eq ▸ (closeRow_requests u).2.2
  have step : ∀ {v}, rowEnd u = v → exec .stepComplete s = .next (settle s v) := fun eq => expiry_lands runs eq
  refine ⟨fun cancel => step ?_, fun cancel hold => step ?_, fun cancel free latch => step ?_,
    fun cancel free latch feeds => step ?_, fun cancel free latch feeds => step ?_⟩
  · rw [rowEnd_cancels (s := u) cancel, closed_eq]
  · rw [rowEnd_holds (s := u) cancel hold, closed_eq]
  · rw [rowEnd_goes_on (s := u) cancel free, closed_eq, nextRow_latch latch]
  · rw [rowEnd_goes_on (s := u) cancel free, closed_eq, nextRow_feed latch (feeds_eq ▸ feeds), ← feeds_eq]
    rfl
  · rw [rowEnd_goes_on (s := u) cancel free, closed_eq, nextRow_cache latch (feeds_eq.trans feeds)]

end Sys2Proof.Proofs
end

section
/-! PROOFS. Phases, heat, readings (R144, R162 to R164, R168 to R179): O57, O58, O59. -/

namespace Sys2Proof.Machine

open Sys2Proof Sys2Proof.Claims

/-! ## What is driven (R163) -/

/-- A byte of a row worked out byte by byte. -/
theorem getD_zipWith_range {α : Type} {l : List α} {i : Nat} (f : α → Nat → Byte) (x : α) (inside : i < 72)
    (found : l[i]? = some x) : (List.zipWith f l (List.range 72)).getD i 0 = f x i := by
  rw [List.getD_eq_getElem?_getD, List.getElem?_zipWith, found, List.getElem?_range inside]
  rfl

theorem getElem?_of_full {image : Image} {i : Nat} (full : image.length = 72) (inside : i < 72) :
    image[i]? = some (image.getD i 0) := by
  rw [List.getElem?_eq_getElem (by omega), List.getD_eq_getElem _ _ (by omega)]

theorem keepSegments_getD {image : Image} {i : Nat} (segments : List Nat) (full : image.length = 72) (inside : i < 72) :
    (keepSegments image segments).getD i 0 = if i / 9 ∈ segments then image.getD i 0 else 0 := by
  unfold keepSegments
  rw [getD_zipWith_range _ _ inside (getElem?_of_full full inside)]
  exact if_congr List.contains_iff_mem rfl rfl

theorem dropHeldDots_getD {data image : Image} {d : HistoryImage} {i : Nat} (segment : Nat) (data_full : data.length = 72)
    (image_full : image.length = 72) (history_full : (historyImage d).length = 72) (inside : i < 72) :
    (dropHeldDots data image d segment).getD i 0 =
      if i / 9 = segment then data.getD i 0 &&& ~~~(image.getD i 0 &&& (historyImage d).getD i 0) else data.getD i 0 := by
  have bytes : (List.zip data (List.zip image (historyImage d)))[i]? =
      some (data.getD i 0, image.getD i 0, (historyImage d).getD i 0) := by
    simp only [List.zip, List.getElem?_zipWith, getElem?_of_full data_full inside, getElem?_of_full image_full inside,
      getElem?_of_full history_full inside]
  unfold dropHeldDots
  rw [getD_zipWith_range _ _ inside bytes]

theorem blankImage_getD (i : Nat) : blankImage.getD i 0 = 0 := by
  unfold blankImage
  rw [List.getD_eq_getElem?_getD]
  exact List.getElem?_getD_replicate_default_eq ..

/-- With a BLANK history no dot is held. -/
theorem dropHeldDots_blank {data image : Image} {i : Nat} (segment : Nat) (data_full : data.length = 72)
    (image_full : image.length = 72) (inside : i < 72) : (dropHeldDots data image none segment).getD i 0 = data.getD i 0 := by
  rw [dropHeldDots_getD segment data_full image_full (by decide) inside]
  show (if i / 9 = segment then data.getD i 0 &&& ~~~(image.getD i 0 &&& blankImage.getD i 0) else data.getD i 0) = _
  have kept : ∀ a b : Byte, a &&& ~~~(b &&& 0#8) = a := fun a b => by
    rw [BitVec.and_zero, BitVec.not_zero, BitVec.and_allOnes]
  rw [blankImage_getD]
  split
  · exact kept _ _
  · rfl

/-! ## Phases (R144, R163, R164, R177) -/

theorem hotAt_iff (s : State) (limit : Nat) :
    s.hotAt limit = true ↔ ∃ h ∈ s.hm.estimates, (limit : Int) ≤ s.headTemp + ((h / 16 : Nat) : Int) := by
  unfold State.hotAt State.teffs
  simp only [List.any_eq_true, List.mem_map, decide_eq_true_iff, exists_exists_and_eq_and]

theorem endHeldDots_of_plan {s : State} {plan : Plan} (segment : Nat) (h : s.sp.plan = some plan) : endHeldDots segment s =
    s.withSp { s.sp with dotData := dropHeldDots s.sp.dotData s.ps.latchImage plan.decision segment } := by
  unfold endHeldDots; rw [h]

theorem exec_heldDotsEnd_of_pulse {s : State} {p : Pulse} {i : Fin 8} (h : pulseFor s i.val = some p) :
    exec (.heldDotsEnd i) s = expiry s.sp.phaseStart p.held (endHeldDots i.val) s := by
  show execHeldDotsEnd i s = _
  unfold execHeldDotsEnd; rw [h]

theorem exec_segmentStrobeEnd_of_pulse {s : State} {p : Pulse} {i : Fin 8} (h : pulseFor s i.val = some p) :
    exec (.segmentStrobeEnd i) s = expiry s.sp.phaseStart p.full (endStrobe i.val) s := by
  show execSegmentStrobeEnd i s = _
  unfold execSegmentStrobeEnd; rw [h]

theorem exec_segment_without_pulse {s : State} {i : Fin 8} (h : pulseFor s i.val = none) :
    exec (.heldDotsEnd i) s = .next s ∧ exec (.segmentStrobeEnd i) s = .next s := by
  constructor
  · show execHeldDotsEnd i s = _
    unfold execHeldDotsEnd; rw [h]
  · show execSegmentStrobeEnd i s = _
    unfold execSegmentStrobeEnd; rw [h]

/-- A phase's end: the strobes off, the heat taken, the segments burned, and what follows. -/
theorem endPhase_eq {s : State} {p : Plan} {r : RowRecord} (plan : s.sp.plan = some p) (row : s.ps.row = some r) :
    endPhase s = afterPhase p (burnSegments p r)
      ((strobesOff (heatPhase p s)).withPs { s.ps with row := some (burnSegments p r) }) := by
  unfold endPhase
  rw [plan, row]
  rfl

theorem afterPhase_last {p : Plan} {r : RowRecord} {s : State} (last : p.phases.length ≤ p.current + 1) :
    afterPhase p r s = requestStep s := if_neg (Nat.not_lt.mpr last)

theorem afterPhase_holds {p : Plan} {r : RowRecord} {s : State} (more : p.current + 1 < p.phases.length)
    (hold : s.ps.holdRequest = true) : afterPhase p r s = enterHeld .inRow s := (if_pos more).trans (if_pos hold)

theorem afterPhase_next {p : Plan} {r : RowRecord} {s : State} (more : p.current + 1 < p.phases.length)
    (free : s.ps.holdRequest = false) : afterPhase p r s = startPhase { p with current := p.current + 1 } r s :=
  (if_pos more).trans (if_neg (ne_true_of_eq_false free))

/-! ## Heat (R172, R173, R176, R179) -/

theorem heatSegment_of_count {counts : List SegmentCount} {e : List Nat} {c : SegmentCount} {p : Pulse}
    (h : counts.find? (fun x => x.segment == p.segment) = some c) : heatSegment counts e p =
      e.set p.segment (min 1023 (e.getD p.segment 0 + (c.fresh * p.full + c.held * p.held) / 512)) := by
  unfold heatSegment
  rw [h]
  rfl

theorem judgeTick_without_row {s : State} (row : s.ps.row = none) : judgeTick s = s := by
  unfold judgeTick; rw [row]

theorem judgeTick_hot {s : State} {r : RowRecord} (row : s.ps.row = some r) (hot : s.hotAt r.warn = true) :
    judgeTick s = s := by
  unfold judgeTick
  rw [row]
  exact if_pos hot

theorem judgeTick_paced {s : State} {r : RowRecord} (row : s.ps.row = some r) (cool : s.hotAt r.warn = false)
    (paces : s.ps.engine = .coolPace) : judgeTick s = endPacing s := by
  unfold judgeTick
  rw [row]
  exact (if_neg (ne_true_of_eq_false cool)).trans (if_pos paces)

theorem judgeTick_halted {s : State} {r : RowRecord} (row : s.ps.row = some r) (cool : s.hotAt r.warn = false)
    (halted : s.ps.engine = .hotHalt) (waits : s.hm.halt = .coolWait) : judgeTick s = endHalt s := by
  unfold judgeTick
  rw [row]
  exact (if_neg (ne_true_of_eq_false cool)).trans ((if_neg (by rw [halted]; decide)).trans (if_pos ⟨halted, waits⟩))

/-- Where neither pacing nor a cooling halt waits for it, a tick ends nothing. -/
theorem judgeTick_of_no_wait {s : State} (paces : s.ps.engine ≠ .coolPace)
    (waits : ¬(s.ps.engine = .hotHalt ∧ s.hm.halt = .coolWait)) : judgeTick s = s := by
  unfold judgeTick
  cases s.ps.row with
  | none => rfl
  | some r =>
    dsimp only
    rw [if_neg paces, if_neg waits, ite_self]

theorem resumeRow_plans {s : State} {v : Nat} (reading : s.sm.supply = some v) (enough : 44 ≤ v) : resumeRow s = planPoint s :=
  if_neg (ne_true_of_eq_false (supplyBelow_of_enough reading enough))

theorem resumeRow_holds {s : State} {v : Nat} (reading : s.sm.supply = some v) (low : v < 44) :
    resumeRow s = enterBatteryHold false s := if_pos (supplyBelow_of_low reading low)

/-! ## Readings (R168, R169, R171) -/

theorem supplyOf_eq (x : Sense) : supplyOf x = min 99 (x.millivolts / 100) := by
  unfold supplyOf
  rw [clamp_zero]

theorem headTempOf_eq (x : Sense) : headTempOf x = max (-20) (min 100 (x.millidegrees / 1000)) :=
  clampInt_eq_max_min (by decide) _

/-- A reading, by the levels it takes. -/
theorem takeReading_eq (s : State) : takeReading s =
    let u := (s.withEnv (dropSense s.env)).withSm
      { s.sm with supply := some (supplyOf (nextSense s.env)), headTemp := some (headTempOf (nextSense s.env)) }
    if supplyOf (nextSense s.env) < 46 then u.withCbm { s.cbm with flagsHi := s.cbm.flagsHi ||| 0x80 } else u := rfl

theorem dropSense_given {e : Surroundings} {x : Sense} {rest : List Sense} (h : e.senseIn = x :: rest) :
    dropSense e = { e with senseIn := rest } := by
  unfold dropSense; rw [h]

theorem nextSense_given {e : Surroundings} {x : Sense} {rest : List Sense} (h : e.senseIn = x :: rest) : nextSense e = x := by
  unfold nextSense; rw [h]

theorem endBatteryHold_of_row {s : State} {r : RowRecord} (row : s.ps.row = some r) : endBatteryHold s =
    if r.batteryAtStart = true ∧ (stopReadingTimer s).hotAt r.warn = true then enterCoolPace (stopReadingTimer s)
    else planPoint (stopReadingTimer s) := by
  have stopped : (stopReadingTimer s).ps.row = some r := row
  unfold endBatteryHold
  rw [row]
  dsimp only
  by_cases start : r.batteryAtStart = true
  · rw [if_pos start]
    by_cases hot : (stopReadingTimer s).hotAt r.warn = true
    · rw [if_pos ⟨start, hot⟩, warnCheck_paces stopped hot]
    · rw [if_neg fun h => hot h.2, warnCheck_passes stopped (Bool.eq_false_iff.mpr hot)]
  · rw [if_neg start, if_neg fun h => start h.1]

theorem timedReading_runs_on {s : State} (h : (takeReading s).ps.engine ≠ .batteryHold ∨
    supplyBelow 46 (startReadingTimer (takeReading s)) = true) : timedReading s = startReadingTimer (takeReading s) := by
  refine if_neg fun ⟨held, enough⟩ => ?_
  rcases h with other | low
  · exact other held
  · rw [low] at enough
    contradiction

theorem timedReading_ends_hold {s : State} (held : (takeReading s).ps.engine = .batteryHold)
    (enough : supplyBelow 46 (startReadingTimer (takeReading s)) = false) :
    timedReading s = endBatteryHold (startReadingTimer (takeReading s)) := if_pos ⟨held, enough⟩

end Sys2Proof.Machine

namespace Sys2Proof.Proofs

open Sys2Proof Sys2Proof.Machine Sys2Proof.Claims

theorem phaseStarts : PhaseStarts := fun _ _ s =>
  ⟨fun hot => if_pos hot, fun cool => if_neg (ne_true_of_eq_false cool), hotAt_iff s⟩

theorem segmentPulsesEnd : SegmentPulsesEnd := by
  refine ⟨fun image segments i full inside => keepSegments_getD segments full inside,
    fun data image old segment i data_full image_full old_full inside =>
      ⟨dropHeldDots_getD (d := some old) segment data_full image_full old_full inside,
        dropHeldDots_blank segment data_full image_full inside⟩, fun s i => ?_⟩
  refine ⟨fun p plan start pulse runs planned => ?_, fun p start pulse runs => ?_, fun missing => ?_⟩
  · rw [exec_heldDotsEnd_of_pulse pulse]
    exact expiry_lands runs (endHeldDots_of_plan (s := atTime (start + p.held) s) _ planned)
  · rw [exec_segmentStrobeEnd_of_pulse pulse]
    exact expiry_lands runs rfl
  · cases pulse : pulseFor s i.val with
    | none => exact exec_segment_without_pulse pulse
    | some p =>
      have stopped := missing.resolve_left (by rw [← pulseFor, pulse]; exact Option.some_ne_none p)
      rw [exec_heldDotsEnd_of_pulse pulse, exec_segmentStrobeEnd_of_pulse pulse]
      exact ⟨expiry_of_stopped stopped, expiry_of_stopped stopped⟩

theorem phaseEnds : PhaseEnds := by
  intro s start p r runs plan row r1 u
  have step : ∀ {v}, afterPhase p r1 u = v → exec .phaseEnd s = .next (settle s v) := fun {v} eq =>
    expiry_lands runs ((endPhase_eq (s := atTime (start + phaseDuration s.sp.pulses) s) plan row).trans eq)
  exact ⟨fun last => step (afterPhase_last last), fun more hold => step (afterPhase_holds more hold),
    fun more free => step (afterPhase_next more free)⟩

/-- Settles O57: a phase's start, the ends of its segments' pulses, and its end. -/
theorem phasesBurn : Obligations.PhasesBurn := ⟨phaseStarts, segmentPulsesEnd, phaseEnds⟩

theorem heatGainAndCooling : HeatGainAndCooling :=
  ⟨fun _ _ _ _ found => heatSegment_of_count found, rfl, fun _ pos => if_neg (Nat.pos_iff_ne_zero.mp pos), fun _ => rfl⟩

theorem coolingAndPacing : CoolingAndPacing := by
  refine ⟨fun s => ?_, fun s stopped => expiry_of_stopped stopped, fun s start runs => expiry_lands runs rfl, fun s => rfl,
    fun s => rfl, fun s v reading enough => resumeRow_plans reading enough,
    fun s v reading low => resumeRow_holds reading low⟩
  intro t u
  have step : ∀ {v}, judgeTick u = v → exec .coolingTick s = .next (settle s v) := fun eq => expiry_lands rfl eq
  exact ⟨fun row => step (judgeTick_without_row row), fun r row => ⟨fun hot => step (judgeTick_hot row hot),
    fun cool paces => step (judgeTick_paced row cool paces),
    fun cool halted waits => step (judgeTick_halted row cool halted waits),
    fun paces waits => step (judgeTick_of_no_wait paces waits)⟩⟩

/-- Settles O58: the heat of a phase, the cooling tick and what it ends, and pacing. -/
theorem heatIsGainedAndLost : Obligations.HeatIsGainedAndLost := ⟨heatGainAndCooling, coolingAndPacing⟩

theorem readingsAreTaken : ReadingsAreTaken := by
  refine ⟨fun s mv md rest given => ?_, fun s empty => ⟨supplyOf (nextSense s.env), headTempOf (nextSense s.env), ?_, ?_, ?_, ?_⟩⟩
  · rw [takeReading_eq, dropSense_given given, nextSense_given given, supplyOf_eq, headTempOf_eq]
  · rw [supplyOf_eq]
    exact Nat.min_le_left ..
  · rw [headTempOf_eq]
    exact le_max_left ..
  · rw [headTempOf_eq]
    exact max_le (by decide) (min_le_left ..)
  · have used : dropSense s.env = { s.env with senseUsed := s.env.senseUsed + 1 } := by
      unfold dropSense
      split
      next x rest given =>
        rw [empty] at given
        contradiction
      next => rfl
    rw [takeReading_eq, used]

theorem timedReadings : TimedReadings := by
  refine fun s => ⟨fun n => supplyBelow_iff n s, fun stopped => expiry_of_stopped stopped, fun start runs => ?_⟩
  intro t u ended
  have now : t.env.now = max s.env.now (start + 100000) := (takeReading_frame _).2.2.2.2.2.2.2.2.2.2.1
  have print : t.ps = s.ps := takeReading_ps _
  have timer : startReadingTimer t = u := by
    unfold startReadingTimer
    rw [now]
  have step : ∀ {v}, timedReading (atTime (start + 100000) s) = v → exec .readingTimerExpiry s = .next (settle s v) :=
    fun eq => expiry_lands runs eq
  refine ⟨fun other => ?_, fun v held reading low => ?_, fun v r held reading enough row => step ?_⟩
  · rw [← timer]
    exact step (timedReading_runs_on (.inl (print ▸ other)))
  · rw [← timer]
    exact step (timedReading_runs_on (.inr (supplyBelow_of_low reading low)))
  · refine (timedReading_ends_hold (print ▸ held) (supplyBelow_of_enough reading enough)).trans ?_
    have row_eq : (startReadingTimer t).ps.row = some r := print ▸ row
    exact endBatteryHold_of_row row_eq

/-- Settles O59: the reading's levels, and the timer's readings in and out of a battery hold. -/
theorem readingsOfSupplyAndHead : Obligations.ReadingsOfSupplyAndHead := ⟨readingsAreTaken, timedReadings⟩

end Sys2Proof.Proofs
end
